-- ==== Sys2Proof/Word.lean ====
section
/-! DEFINITION. The word types of the model: what the manual treats as bits (a byte of a frame, a 16-bit register or
mask), and the unit in which an analogue level reaches the part. -/

namespace Sys2Proof

/-- One byte of a frame, of the configuration image or of a snapshot page. -/
abbrev Byte := BitVec 8

/-- A 16-bit register, mask or trace index: the sweep's three registers (R167), the release mask (R27), the trace
index (R36). -/
abbrev Half := BitVec 16

/-- The level of an analogue input in microvolts. The manual gives levels in volts with no resolution
(R39, R63, R76, R81, R110, R118, R122). DESIGN CHOICE, log entry 3: a level is a whole number of microvolts. -/
abbrev Microvolt := Nat

end Sys2Proof
end

