-- ==== Sys2Proof/Syntax.lean ====
section
/-! DEFINITION. The commands of the block: one constructor of `Instr` per row of spec/opcode_table.json, with the
operands the row's step takes from outside the part (a frame's bytes, the levels on the pins it reads, the wheel,
corner, entrance or station it concerns). -/

namespace Sys2Proof

/-- The left and the right wheel, corner, chamber or bellows of the axle. -/
inductive Side | left | right
deriving DecidableEq, Repr

/-- One value for each side of the axle. -/
structure Sides (α : Type) where
  left : α
  right : α
deriving DecidableEq, Repr

/-- The two entrance slots of a station. -/
inductive Slot | zero | one
deriving DecidableEq, Repr

/-- One value for each entrance slot. -/
structure Slots (α : Type) where
  zero : α
  one : α
deriving DecidableEq, Repr

/-- The destination field of a frame in its good values: 0..7 a station, 8 all stations. -/
inductive Dest
  | station (n : Fin 8)
  | all
deriving DecidableEq, Repr

/-- Who sent a frame and to whom (the sender and destination fields). -/
structure Address where
  sender : Fin 8
  dest : Dest
deriving DecidableEq, Repr

/-- The fields ahead of a frame's length and payload as they are read off the link, good or not. -/
structure RawHead where
  kind : Fin 16
  cls : Fin 4
  parity : Bool
  sender : Fin 8
  dest : Fin 16
deriving DecidableEq, Repr

/-- The alert codes of R31, in code-number order. -/
inductive AlertCode | jackknife | jointLimit | steerPinned | brakeDegraded | entranceBreach
deriving DecidableEq, Repr

/-- The levels on the three strap pins, true for an open pin, which reads 1 (R164). -/
structure StrapPins where
  stn0 : Bool
  stn1 : Bool
  stn2 : Bool
deriving DecidableEq, Repr

/-- The levels on PED1 and PED2 (R76). -/
structure Pedals where
  ped1 : Microvolt
  ped2 : Microvolt
deriving DecidableEq, Repr

/-- The levels levelling reads at stage 1 of its period: HGT, PBL and PSUP (R112). -/
structure LevelReadings where
  height : Sides Microvolt
  bellows : Sides Microvolt
  supply : Microvolt
deriving DecidableEq, Repr

/-- The four inputs of one entrance slot, true when the line is active: the closed switch shows the leaf shut, the
locked switch the bolt thrown, the safety edge contact, the open button pressed. -/
structure SlotInputs where
  closed : Bool
  locked : Bool
  edge : Bool
  button : Bool
deriving DecidableEq, Repr

/-- The driver's six switches on the CAB station, true when closed (R144). -/
structure Switches where
  stop : Bool
  kneel : Bool
  park : Bool
  rev : Bool
  ovr : Bool
  rel : Bool
deriving DecidableEq, Repr

/-- The commands: each row of the table of operations and events. A command is what reaches the part from outside
(a frame, a pulse, a level, a reset) or one of its own periods, timers and limits falling due (log entry 1). -/
inductive Instr
  /-- POWER_ON_RESET, R163: the levels on the strap pins. -/
  | powerOnReset (pins : StrapPins)
  /-- SERVICE_RESTART, R177. -/
  | serviceRestart (pins : StrapPins)
  /-- CONFIGURATION_IMAGE_READ, R164: the bytes the serial memory answered, byte 0 first. -/
  | configurationImageRead (image : List Byte)
  /-- SWEEP_OR_SKIP, R166. -/
  | sweepOrSkip
  /-- SWEEP_STEP, R168: the bit the current sense gave 0.8 ms into the step. -/
  | sweepStep (feedback : Bool)
  /-- LADDER_PERIOD, R2. -/
  | ladderPeriod
  /-- STILL_TIMER_FULL, R3. -/
  | stillTimerFull
  /-- STARTUP_TIMER_LIMIT, R8. -/
  | startupTimerLimit
  /-- RECOVERY_TIMER_FULL, R17. -/
  | recoveryTimerFull
  /-- STATE_FRAME, R22: in class 2, or in class 1 when its sender has promoted it. -/
  | stateFrame (promoted : Bool) (addr : Address) (payload : List Byte)
  /-- DEMAND_FRAME, R27. -/
  | demandFrame (addr : Address) (payload : List Byte)
  /-- ALERT_FRAME, R31. -/
  | alertFrame (addr : Address) (payload : List Byte)
  /-- TRACE_FRAME, R43. -/
  | traceFrame (addr : Address) (payload : List Byte)
  /-- REJECTION_RUN_BREAK, R46: the ignored arrival's index and curvature. -/
  | rejectionRunBreak (index : Half) (kappa : Int)
  /-- SERVICE_REPLY_FRAME, R20. -/
  | serviceReplyFrame (addr : Address) (payload : List Byte)
  /-- FRAME_CHECK_ERROR, R152. -/
  | frameCheckError
  /-- FRAME_FORMAT_ERROR, R152. -/
  | frameFormatError
  /-- FRAME_REJECTED, R152: the fields as read off the link. -/
  | frameRejected (head : RawHead) (payload : List Byte)
  /-- PEER_STALE, R23. -/
  | peerStale (n : Fin 8)
  /-- PEER_LOST, R23. -/
  | peerLost (n : Fin 8)
  /-- PEER_ABSENT_LIMIT, R23. -/
  | peerAbsentLimit (n : Fin 8)
  /-- DEMAND_STALE, R28. -/
  | demandStale
  /-- DEMAND_LOST, R28. -/
  | demandLost
  /-- DEMAND_ABSENT_LIMIT, R28. -/
  | demandAbsentLimit
  /-- ALERT_EXPIRY, R32: the entry's code, qualifier and sender. -/
  | alertExpiry (code : AlertCode) (qualifier : Byte) (sender : Fin 8)
  /-- WHEEL_PULSE, R95: the input, and the level on STA that a completed path step reads (R37). -/
  | wheelPulse (side : Side) (sta : Microvolt)
  /-- PATH_STEP, R37. -/
  | pathStep (sta : Microvolt)
  /-- TRACKER_PERIOD, R49. -/
  | trackerPeriod
  /-- STEERING_PERIOD, R52: the level on STA. -/
  | steeringPeriod (sta : Microvolt)
  /-- TRACKING_FAULT, R60. -/
  | trackingFault
  /-- STEER_PINNED_REPEAT, R56. -/
  | steerPinnedRepeat
  /-- JOINT_PERIOD, R63: the level on JNT. -/
  | jointPeriod (jnt : Microvolt)
  /-- JOINT_SENSOR_RECOVERY, R64. -/
  | jointSensorRecovery (jnt : Microvolt)
  /-- JACKKNIFE_SET, R66. -/
  | jackknifeSet
  /-- JACKKNIFE_CLEAR, R67. -/
  | jackknifeClear
  /-- JACKKNIFE_ALERT_REPEAT, R70. -/
  | jackknifeAlertRepeat
  /-- JOINT_LIMIT_ALERT_REPEAT, R70. -/
  | jointLimitAlertRepeat
  /-- BRAKE_PERIOD, R75: the levels on PCH and, for the CAB role, PED. -/
  | brakePeriod (chambers : Sides Microvolt) (pedals : Pedals)
  /-- CHAMBER_SENSOR_RECOVERY, R81. -/
  | chamberSensorRecovery (side : Side) (level : Microvolt)
  /-- SLIP_PERIOD, R98. -/
  | slipPeriod
  /-- GRIP_REAPPLY, R104. -/
  | gripReapply (side : Side)
  /-- BRAKE_DEGRADED, R108. -/
  | brakeDegraded (side : Side)
  /-- BRAKE_DEGRADED_REPEAT, R108. -/
  | brakeDegradedRepeat (side : Side)
  /-- LEVELLING_PERIOD, R112. -/
  | levellingPeriod (readings : LevelReadings)
  /-- AIR_WINDOW_START, R124. -/
  | airWindowStart
  /-- CORNER_LOCKED, R114. -/
  | cornerLocked (side : Side)
  /-- OUT_OF_BAND_LIMIT, R115. -/
  | outOfBandLimit (side : Side)
  /-- HEIGHT_SENSOR_RECOVERY, R111. -/
  | heightSensorRecovery (side : Side) (level : Microvolt)
  /-- BELLOWS_SENSOR_RECOVERY, R118. -/
  | bellowsSensorRecovery (side : Side) (level : Microvolt)
  /-- SUPPLY_SENSOR_RECOVERY, R122. -/
  | supplySensorRecovery (level : Microvolt)
  /-- RAISE_SLOW, R121. -/
  | raiseSlow
  /-- ENTRANCE_PERIOD, R131: the inputs of both slots (a slot that is not fitted is not read). -/
  | entrancePeriod (inputs : Slots SlotInputs)
  /-- LOCK_TIMEOUT, R135. -/
  | lockTimeout (slot : Slot)
  /-- CLOSE_TIMEOUT, R137. -/
  | closeTimeout (slot : Slot)
  /-- REOPENING_DONE, R138. -/
  | reopeningDone (slot : Slot)
  /-- ENTRANCE_BREACH_REPEAT, R139. -/
  | entranceBreachRepeat (slot : Slot)
  /-- DEMAND_COMPUTATION, R144. -/
  | demandComputation (switches : Switches)
  /-- LINK_IDLE, R155. -/
  | linkIdle
  /-- ARBITRATION_LOST, R150. -/
  | arbitrationLost
  /-- SEND_BIT_ERROR, R154. -/
  | sendBitError
  /-- FRAME_SENT, R153: whether the ack slot read dominant. -/
  | frameSent (acked : Bool)
  /-- LINK_ALONE, R153. -/
  | linkAlone
  /-- STATE_TIMER, R161. -/
  | stateTimer
  /-- STATE_PROMOTION, R158. -/
  | statePromotion
  /-- SECONDS_TICK, R172. -/
  | secondsTick
  /-- SNAPSHOT, R175: the bytes after the request code. -/
  | snapshot (addr : Address) (args : List Byte)
  /-- READ_FAULTS, R175. -/
  | readFaults (addr : Address) (args : List Byte)
  /-- CLEAR_FAULTS, R175. -/
  | clearFaults (addr : Address) (args : List Byte)
  /-- CALIBRATE_HEIGHT, R176. -/
  | calibrateHeight (addr : Address) (args : List Byte)
  /-- COIL_SWEEP, R177. -/
  | coilSweep (addr : Address) (args : List Byte)
  /-- RESTART, R177. -/
  | restart (addr : Address) (args : List Byte)
  /-- UNKNOWN_REQUEST, R174: the whole payload of the SERVICE_REQ. -/
  | unknownRequest (addr : Address) (payload : List Byte)
deriving DecidableEq, Repr

end Sys2Proof
end

