-- ==== Sys2Proof/Decode.lean ====
section
/-! DEFINITION. The host's decoder over the table's rows that give bits. Every row of spec/opcode_table.json has an
empty list of fields and no bits, so no word spells a command. -/

namespace Sys2Proof

/-- The command a word of `nbits` bits spells by the table: none, since no row of the table has bits. -/
def decodeTableWord (_nbits _w : Nat) : Option Instr := none

end Sys2Proof
end

