-- ==== Sys2Proof/Config.lean ====
section
/-! DEFINITION. What differs between stations and buses and does not change while the part runs: the working
configuration that the start-up block holds (R164, R165, the configuration image table of The Chassis Link). The model
needs no free value: the manual gives a result for every input of every step (NOTES.md, Assumptions). -/

namespace Sys2Proof

/-- A station's role, in code-number order. -/
inductive Role | cab | plain | steer
deriving DecidableEq, Repr

/-- The working configuration: the fields of the configuration image in working form. -/
structure Image where
  role : Role
  cabStation : Fin 8
  /-- Bit n: station n is part of the bus. -/
  present : BitVec 8
  /-- Section of stations 0..7. -/
  sections : Vector Nat 8
  /-- Nominal load of stations 0..7, 10 kg. -/
  nominal : Vector Nat 8
  unsprung : Nat
  kload : Nat
  kerb : Side
  trim : Sides Int
  kneelDepth : Nat
  deadband : Nat
  supplyFitted : Bool
  /-- The entrance present mask: which slots are fitted. -/
  fitted : Slots Bool
  pulsesPerStep : Nat
  /-- Bit n: global entrance n is opened by the release switch. -/
  busEntrances : Half
  dmax : Nat
  stretch : Nat
  boost : Nat
  /-- Force one kPa in both chambers gives, N. -/
  forcePerKpa : Nat
  pMax : Nat
  takeoverCap : Nat
  confirmThreshold : Nat
  wheelbase : Nat
  axleOffset : Nat
  /-- The joint whose sensor the station carries. -/
  joint : Option (Fin 3)
  jointOffset : Nat
  jointLever : Nat
  jackThreshold : Nat
  lever : Nat
  maxLock : Nat
  rateLimit : Nat
  fadeStart : Nat
  fadeEnd : Nat
deriving DecidableEq, Repr

end Sys2Proof
end

