-- ==== Sys2Proof/Machine/Arith.lean ====
section
/-! DEFINITION. The arithmetic of the manual's Conventions (00_scope.md, Arithmetic and rounding): its roundings and
clamps, counters that stop at a ceiling, and numbers as bytes, high byte first (The Chassis Link, Byte layouts). -/

namespace Sys2Proof.Machine

/-- `n / d` rounded half away from zero, for `d` above 0. -/
def roundHalfAway (n : Int) (d : Nat) : Int :=
  n.sign * (((2 * n.natAbs + d) / (2 * d) : Nat) : Int)

/-- `n / d` rounded half away from zero, for a quotient that is not negative. -/
def roundHalfUp (n d : Nat) : Nat := (2 * n + d) / (2 * d)

/-- A result below `lo` goes to `lo`, one above `hi` to `hi`. -/
def clampInt (lo hi x : Int) : Int := if x < lo then lo else if hi < x then hi else x

/-- The clamp on quantities that cannot be negative. -/
def clampNat (lo hi x : Nat) : Nat := if x < lo then lo else if hi < x then hi else x

/-- An event counter or an age of 0..65535: it stays at 65535 once it gets there. -/
def bump (n : Nat) : Nat := if n < 65535 then n + 1 else n

/-- A counter raised by `k` that stays at 65535. -/
def bumpBy (k n : Nat) : Nat := if n + k ≤ 65535 then n + k else 65535

/-- A count or timer that grows by `k` and stops at `limit`. -/
def growTo (limit k n : Nat) : Nat := if n + k < limit then n + k else limit

/-- `x` in `w` bytes, high byte first. -/
def bytesOf : Nat → Nat → List Byte
  | 0, _ => []
  | w + 1, x => bytesOf w (x / 256) ++ [BitVec.ofNat 8 x]

/-- `x` in `w` bytes of two's complement, high byte first. -/
def signedBytesOf (w : Nat) (x : Int) : List Byte :=
  bytesOf w (x.emod ((256 ^ w : Nat) : Int)).toNat

/-- The byte at offset `i`; a byte that is not there reads 255, as a memory that does not answer does (R164). -/
def byteAt (bytes : List Byte) (i : Nat) : Nat := (bytes.getD i 255).toNat

/-- The two-byte field at offset `i`, high byte first. -/
def pairAt (bytes : List Byte) (i : Nat) : Nat := 256 * byteAt bytes i + byteAt bytes (i + 1)

/-- A field of `2 ^ bits` values read as two's complement. -/
def asSigned (bits x : Nat) : Int :=
  if x < 2 ^ (bits - 1) then (x : Int) else (x : Int) - ((2 ^ bits : Nat) : Int)

end Sys2Proof.Machine
end

