-- ==== Sys2Proof/Machine/Wire.lean ====
section
/-! DEFINITION. Frames on the wires: kinds and classes, identifiers, kind parity, the check value, bit insertion, and
the numbers the manual gives to alerts and requests (R149, R151, R152 and the tables of The Chassis Link). -/

namespace Sys2Proof.Machine

/-- The frame kinds, in the order of their code numbers. -/
inductive Kind | state | demand | trace | alert | serviceReq | serviceReply
deriving DecidableEq, Repr

/-- Kind code numbers of the frame table. -/
def Kind.code : Kind → Nat
  | .state => 1
  | .demand => 2
  | .trace => 3
  | .alert => 5
  | .serviceReq => 6
  | .serviceReply => 7

/-- The kind a code number names; 0, 4 and 8..15 are unknown (R152). -/
def Kind.ofCode : Nat → Option Kind
  | 1 => some .state
  | 2 => some .demand
  | 3 => some .trace
  | 5 => some .alert
  | 6 => some .serviceReq
  | 7 => some .serviceReply
  | _ => none

/-- The class in which a frame of the kind joins the queue (frame table; a STATE starts in class 2, R158). -/
def Kind.cls : Kind → Nat
  | .state => 2
  | .demand => 1
  | .trace => 1
  | .alert => 0
  | .serviceReq => 3
  | .serviceReply => 3

/-- The classes the frame table gives for the kind. -/
def Kind.hasClass (k : Kind) (cls : Nat) : Bool :=
  cls == k.cls || (k == .state && cls == 1)

/-- The kind parity bit is 1 when the kind code has an odd number of 1 bits (R151). -/
def kindParity (code : Nat) : Bool :=
  (code.testBit 0 ^^ code.testBit 1) ^^ (code.testBit 2 ^^ code.testBit 3)

/-- Destination field values: 8 is all stations. -/
def destNumber : Dest → Nat
  | .station n => n.val
  | .all => 8

/-- A header that R152 does not reject: a known kind in a class given for it, the right parity bit, and a
destination of 0..8. -/
def headGood (h : RawHead) : Bool :=
  match Kind.ofCode h.kind.val with
  | none => false
  | some k => k.hasClass h.cls.val && kindParity h.kind.val == h.parity && h.dest.val ≤ 8

/-- Alert code numbers, 1..5. -/
def alertNumber : AlertCode → Nat
  | .jackknife => 1
  | .jointLimit => 2
  | .steerPinned => 3
  | .brakeDegraded => 4
  | .entranceBreach => 5

/-- The alert a code number names. -/
def alertOfNumber : Nat → Option AlertCode
  | 1 => some .jackknife
  | 2 => some .jointLimit
  | 3 => some .steerPinned
  | 4 => some .brakeDegraded
  | 5 => some .entranceBreach
  | _ => none

/-- The service requests of the service frame table. -/
inductive Request | snapshot | readFaults | clearFaults | calibrateHeight | coilSweep | restart
deriving DecidableEq, Repr

/-- Request code numbers, 1..6. -/
def Request.code : Request → Nat
  | .snapshot => 1
  | .readFaults => 2
  | .clearFaults => 3
  | .calibrateHeight => 4
  | .coilSweep => 5
  | .restart => 6

/-- The request a code names. -/
def Request.ofCode : Nat → Option Request
  | 1 => some .snapshot
  | 2 => some .readFaults
  | 3 => some .clearFaults
  | 4 => some .calibrateHeight
  | 5 => some .coilSweep
  | 6 => some .restart
  | _ => none

/-- Whether a SERVICE_REQ payload names a request. -/
def namesRequest : List Byte → Bool
  | [] => false
  | code :: _ => (Request.ofCode code.toNat).isSome

/-- The results of a SERVICE_REPLY, 0..4. -/
inductive Result | ok | refusedMode | refusedBusy | refusedRange | refusedUnknown
deriving DecidableEq, Repr

/-- Result code numbers. -/
def Result.code : Result → Nat
  | .ok => 0
  | .refusedMode => 1
  | .refusedBusy => 2
  | .refusedRange => 3
  | .refusedUnknown => 4

/-- The 10-bit identifier: class, kind code, kind parity bit, sender (R151). -/
def identifier (cls kindCode sender : Nat) : Nat :=
  256 * cls + 16 * kindCode + (if kindParity kindCode then 8 else 0) + sender

/-- The `w` low bits of `x`, most significant first; true is a 1 bit, which is recessive (R149). -/
def bitsOf : Nat → Nat → List Bool
  | 0, _ => []
  | w + 1, x => x.testBit w :: bitsOf w x

/-- The bits of bytes, most significant bit of each byte first. -/
def bitsOfBytes : List Byte → List Bool
  | [] => []
  | b :: rest => bitsOf 8 b.toNat ++ bitsOfBytes rest

/-- One bit of the CRC with polynomial 0x1021. -/
def crcStep (crc : Nat) (bit : Bool) : Nat :=
  let shifted := (2 * crc) % 65536
  if (crc / 32768 == 1) != bit then Nat.xor shifted 0x1021 else shifted

/-- The CRC taken bit by bit from `crc` on. The match on the next value does nothing but keep Lean's evaluation of
long inputs strict. -/
def crcFrom (crc : Nat) : List Bool → Nat
  | [] => crc
  | b :: rest =>
    match crcStep crc b with
    | 0 => crcFrom 0 rest
    | n + 1 => crcFrom (n + 1) rest

/-- The check of the link and of the configuration image: initial value 0xFFFF, no final inversion (R151, R164). -/
def crc16 (bits : List Bool) : Nat := crcFrom 0xFFFF bits

/-- The bits the check is taken over: identifier, destination, length and payload. -/
def checkedBits (ident dest : Nat) (payload : List Byte) : List Bool :=
  bitsOf 10 ident ++ bitsOf 4 dest ++ bitsOf 4 payload.length ++ bitsOfBytes payload

/-- Bit insertion (R149): after six bits in a row of one level, one bit of the other. `last` and `run` are the level
and length of the run so far. After the last bit of the check nothing is inserted (log entry 23). -/
def insertBits (last : Bool) (run : Nat) : List Bool → List Bool
  | [] => []
  | b :: rest =>
    if run == 6 then
      (!last) :: b :: insertBits b (if b == !last then 2 else 1) rest
    else
      b :: insertBits b (if b == last then run + 1 else 1) rest

/-- A receiver's removal of the inserted bits (R149): the bit after six of one level is not one of the frame's. -/
def removeInserted (last : Bool) (run : Nat) : List Bool → List Bool
  | [] => []
  | b :: rest =>
    if run == 6 then removeInserted b 1 rest
    else b :: removeInserted b (if b == last then run + 1 else 1) rest

/-- A frame as it is driven: the dominant start bit to the last check bit with the inserted bits, then the recessive
ack slot and the eight recessive end bits. -/
def frameBits (ident dest : Nat) (payload : List Byte) : List Bool :=
  let body := checkedBits ident dest payload
  let framed := body ++ bitsOf 16 (crc16 body)
  false :: insertBits false 1 framed ++ List.replicate 9 true

end Sys2Proof.Machine
end

