-- ==== Sys2Proof/Machine/ImageFormat.lean ====
section
/-! DEFINITION. The 96-byte configuration image: its layout and ranges (configuration image table of The Chassis
Link), its checks in their order (R164), its working form, and the default image (R165). -/

namespace Sys2Proof.Machine

/-- The default image that stands in place of a bad one (R165). Until a configuration is held, the only one of these
values that is used is pulses per step, 1, as R95 asks. -/
def defaultImage : Image where
  role := .plain
  cabStation := 0
  present := 255
  sections := Vector.replicate 8 0
  nominal := Vector.replicate 8 1000
  unsprung := 200
  kload := 256
  kerb := .right
  trim := ⟨0, 0⟩
  kneelDepth := 70
  deadband := 5
  supplyFitted := false
  fitted := ⟨true, true⟩
  pulsesPerStep := 1
  busEntrances := 0
  dmax := 650
  stretch := 40
  boost := 100
  forcePerKpa := 120
  pMax := 850
  takeoverCap := 200
  confirmThreshold := 200
  wheelbase := 5900
  axleOffset := 1
  joint := none
  jointOffset := 1
  jointLever := 500
  jackThreshold := 600
  lever := 500
  maxLock := 1500
  rateLimit := 30
  fadeStart := 300
  fadeEnd := 500

/-- How a field of the image is read. -/
inductive FieldForm | one | two | signed
deriving DecidableEq, Repr

/-- A field with a numeric range: its byte offset and form, its least and greatest value. -/
structure FieldRange where
  offset : Nat
  form : FieldForm
  lo : Int
  hi : Int
  /-- A further value allowed (the 255 of byte 57, no joint sensor). -/
  also : Option Int := none

/-- The value of a field. -/
def FieldForm.read (f : FieldForm) (bytes : List Byte) (offset : Nat) : Int :=
  match f with
  | .one => byteAt bytes offset
  | .two => pairAt bytes offset
  | .signed => asSigned 8 (byteAt bytes offset)

/-- Whether the image's field lies in its range. -/
def FieldRange.holds (r : FieldRange) (bytes : List Byte) : Bool :=
  let x := r.form.read bytes r.offset
  (decide (r.lo ≤ x) && decide (x ≤ r.hi)) || r.also == some x

/-- The fields of bytes 0..71 that have a range, in offset order; the present mask (3) and the bus entrance mask
(40–41) take any value. -/
def fieldRanges : List FieldRange :=
  [⟨0, .one, 1, 1, none⟩, ⟨1, .one, 0, 2, none⟩, ⟨2, .one, 0, 7, none⟩] ++
  (List.range 8).map (fun n => ⟨4 + n, .one, 0, 3, none⟩) ++
  (List.range 8).map (fun n => ⟨12 + 2 * n, .two, 1, 2000, none⟩) ++
  [⟨28, .two, 1, 2000, none⟩, ⟨30, .two, 0, 1023, none⟩, ⟨32, .one, 0, 1, none⟩,
   ⟨33, .signed, -60, 60, none⟩, ⟨34, .signed, -60, 60, none⟩, ⟨35, .one, 40, 90, none⟩,
   ⟨36, .one, 2, 15, none⟩, ⟨37, .one, 0, 1, none⟩, ⟨38, .one, 0, 3, none⟩, ⟨39, .one, 1, 255, none⟩] ++
  [⟨42, .two, 300, 800, none⟩, ⟨44, .one, 0, 100, none⟩, ⟨45, .one, 0, 200, none⟩, ⟨46, .two, 20, 400, none⟩,
   ⟨48, .two, 0, 1000, none⟩, ⟨50, .two, 0, 300, none⟩, ⟨52, .two, 0, 600, none⟩, ⟨54, .two, 3000, 8000, none⟩,
   ⟨56, .one, 1, 250, none⟩, ⟨57, .one, 0, 2, some 255⟩, ⟨58, .one, 1, 250, none⟩, ⟨59, .two, 500, 8000, none⟩,
   ⟨61, .two, 200, 1500, none⟩, ⟨63, .two, 500, 8000, none⟩, ⟨65, .two, 0, 2500, none⟩, ⟨67, .one, 1, 100, none⟩,
   ⟨68, .two, 0, 1500, none⟩, ⟨70, .two, 0, 1500, none⟩]

/-- The check value over bytes 0..93 agrees with bytes 94–95. -/
def checkValueGood (bytes : List Byte) : Bool :=
  crc16 (bitsOfBytes ((List.range 94).map fun i => BitVec.ofNat 8 (byteAt bytes i))) == pairAt bytes 94

/-- Bit `n` of the present mask. -/
def maskHas (mask n : Nat) : Bool := mask.testBit n

/-- The checks of R164 in their order: the CONFIG_BAD qualifier of the first that fails, none for an image that
passes every one. -/
def imageFault (strap : Fin 8) (bytes : List Byte) : Option Nat :=
  if !checkValueGood bytes then some 255
  else
    match fieldRanges.find? (fun r => !r.holds bytes) with
    | some r => some r.offset
    | none =>
      if byteAt bytes 1 == 0 && byteAt bytes 2 != strap.val then some 2
      else if !(maskHas (byteAt bytes 3) strap.val && maskHas (byteAt bytes 3) (byteAt bytes 2)) then some 3
      else if byteAt bytes 1 == 0 && byteAt bytes 57 != 255 then some 57
      else if pairAt bytes 70 ≤ pairAt bytes 68 then some 70
      else none

/-- The image's fields in working form. -/
def parseImage (bytes : List Byte) : Image where
  role := match byteAt bytes 1 with
    | 0 => .cab
    | 1 => .plain
    | _ => .steer
  cabStation := Fin.ofNat 8 (byteAt bytes 2)
  present := BitVec.ofNat 8 (byteAt bytes 3)
  sections := Vector.ofFn fun n => byteAt bytes (4 + n.val)
  nominal := Vector.ofFn fun n => pairAt bytes (12 + 2 * n.val)
  unsprung := pairAt bytes 28
  kload := pairAt bytes 30
  kerb := if byteAt bytes 32 == 0 then .left else .right
  trim := ⟨asSigned 8 (byteAt bytes 33), asSigned 8 (byteAt bytes 34)⟩
  kneelDepth := byteAt bytes 35
  deadband := byteAt bytes 36
  supplyFitted := byteAt bytes 37 == 1
  fitted := ⟨(byteAt bytes 38).testBit 0, (byteAt bytes 38).testBit 1⟩
  pulsesPerStep := byteAt bytes 39
  busEntrances := BitVec.ofNat 16 (pairAt bytes 40)
  dmax := pairAt bytes 42
  stretch := byteAt bytes 44
  boost := byteAt bytes 45
  forcePerKpa := pairAt bytes 46
  pMax := pairAt bytes 48
  takeoverCap := pairAt bytes 50
  confirmThreshold := pairAt bytes 52
  wheelbase := pairAt bytes 54
  axleOffset := byteAt bytes 56
  joint := if h : byteAt bytes 57 < 3 then some ⟨byteAt bytes 57, h⟩ else none
  jointOffset := byteAt bytes 58
  jointLever := pairAt bytes 59
  jackThreshold := pairAt bytes 61
  lever := pairAt bytes 63
  maxLock := pairAt bytes 65
  rateLimit := byteAt bytes 67
  fadeStart := pairAt bytes 68
  fadeEnd := pairAt bytes 70

end Sys2Proof.Machine
end

