-- ==== Sys2Proof/Machine/State.lean ====
section
/-! DEFINITION. The state of the part, block by block, as plain data. A field's default is its value after a power-on
reset; INVENTORY.md names the rule of each, log entry 10 the reset values the manual does not give and log entry 12 the
fields that are the model's own. Quantities the manual counts or computes with are numbers; masks, registers
and frame bytes are bit vectors. -/

namespace Sys2Proof.Machine

/-- No fault ends a step of this machine: the manual gives an effect for every step (its own faults are records in the
fault list, which is state). -/
inductive Fault
deriving DecidableEq, Repr

/-- Why a command could have no meaning. -/
inductive Refusal
  /-- Raised by `exec` alone, for a command whose meaning is not written; safe, since a refused step proves nothing.
  No arm of `exec` raises it now. -/
  | notModelled (mnemonic : String)
deriving DecidableEq, Repr

/-- The eight station modes, in code-number order (R1). -/
inductive Mode | start | park | stop | kneel | knelt | raise | drive | backup
deriving DecidableEq, Repr

/-- The target mode, in the order of R4's table. -/
inductive Target | park | knelt | stop | drive | none
deriving DecidableEq, Repr

/-- The speed qualifier, in the order of R3's table. -/
inductive Qualifier | standstill | settling | moving
deriving DecidableEq, Repr

/-- The standing of a peer entry or of the DEMAND record. -/
inductive Freshness | absent | fresh | stale | lost
deriving DecidableEq, Repr

/-! ## Start-up and coil sweep -/

/-- The configuration status (R163, R164). -/
inductive ConfigStatus | notLoaded | good | bad
deriving DecidableEq, Repr

/-- A coil's result (R163, R168). -/
inductive CoilResult | untested | pass | fail
deriving DecidableEq, Repr

/-- The sweep state (R167). -/
inductive SweepState | idle | running | done | aborted
deriving DecidableEq, Repr

/-- The coil sweep (R167): its state, the coil in test, the step count 0..32 and the three 16-bit registers. -/
structure Sweep where
  state : SweepState := .idle
  coil : Nat := 0
  step : Nat := 0
  pattern : Half := 0
  driveSig : Half := 0
  senseSig : Half := 0
deriving DecidableEq, Repr

/-- The start-up block (R163 to R170). -/
structure StartUp where
  /-- The levels on the strap pins as last presented. -/
  pins : StrapPins := ⟨false, false, false⟩
  /-- The strap number, none until it is read. -/
  strap : Option (Fin 8) := none
  config : Option Image := none
  status : ConfigStatus := .notLoaded
  /-- The qualifier CONFIG_BAD was raised with. -/
  badQualifier : Option Nat := none
  coils : Vector CoilResult 10 := Vector.replicate 10 .untested
  sweep : Sweep := {}
  /-- The START sequence has made its choice between a sweep and a skip (R166 steps 3 and 4). -/
  decided : Bool := false
  /-- Start-up done (R6, R166). -/
  done : Bool := false
deriving DecidableEq, Repr

/-! ## Mode ladder -/

/-- The mode ladder (R1 to R18). -/
structure Ladder where
  mode : Mode := .start
  target : Target := .none
  qualifier : Qualifier := .settling
  /-- 0..500 ms. -/
  stillTimer : Nat := 0
  /-- 0..65535 ms, running in START. -/
  startupTimer : Nat := 0
  /-- The start-up timer as it stood at the last ladder period, for the SNAPSHOT (R175). -/
  startupSeen : Nat := 0
  /-- 0..1000 ms. -/
  recoveryTimer : Nat := 0
  /-- The cause "no DEMAND within 2000 ms in START" of R16's table. -/
  noDemandCause : Bool := false
deriving DecidableEq, Repr

/-! ## Peer view -/

/-- The recorded fields of a peer entry, those of its last accepted STATE. -/
structure PeerRecord where
  sect : Nat
  role : Role
  mode : Mode
  load : Nat
  speed : Nat
  /-- 10 N. -/
  deficit : Nat
  filling : Bool
  ready : Bool
  entLocked : Bool
  stopConfirmed : Bool
  anyBreach : Bool
  faultSummary : Byte
  supply : Option Nat
deriving DecidableEq, Repr

/-- A slot of the peer table. A slot that is not in the present mask, or is the own number's, is unused (R19). -/
structure Peer where
  freshness : Freshness := .absent
  /-- 0..65535 ms since the last accepted STATE; since reset while ABSENT. -/
  age : Nat := 0
  record : Option PeerRecord := none
  /-- PEER_LOST has been raised for the ABSENT entry's 2000 ms (R23). -/
  limitReported : Bool := false
deriving DecidableEq, Repr

/-- The values a DEMAND carries. The reset values are what an ABSENT record reads (R29). -/
structure DemandValues where
  d : Nat := 0
  dValid : Bool := false
  stop : Bool := false
  kneel : Bool := false
  park : Bool := false
  rev : Bool := false
  drive : Bool := false
  ovr : Bool := false
  release : Half := 0
deriving DecidableEq, Repr

/-- The DEMAND record. -/
structure DemandRecord where
  freshness : Freshness := .absent
  age : Nat := 0
  values : DemandValues := {}
  /-- DEMAND_LOST with qualifier 1 has been raised (R28). -/
  limitReported : Bool := false
deriving DecidableEq, Repr

/-- An entry of the remote alert set. -/
structure AlertEntry where
  code : AlertCode
  qualifier : Byte
  sender : Fin 8
  age : Nat
deriving DecidableEq, Repr

/-- The peer view (R19 to R35). -/
structure PeerView where
  peers : Vector Peer 8 := Vector.replicate 8 {}
  demand : DemandRecord := {}
  alerts : List AlertEntry := []
  stranger : Nat := 0
  foreignDemand : Nat := 0
  foreignTrace : Nat := 0
  malformed : Nat := 0
  displaced : Nat := 0
  /-- DUPLICATE_STATION is raised. -/
  duplicate : Bool := false
deriving DecidableEq, Repr

/-! ## Path tracker and trace generator -/

/-- An entry of the path queue. -/
structure Sample where
  index : Half
  kappa : Int
  filled : Bool
deriving DecidableEq, Repr

/-- The path tracker, and the trace generator of the CAB station (R36 to R50). -/
structure Tracker where
  /-- The generator's trace index. -/
  traceIndex : Half := 0
  /-- The pulse accumulator, 0..509. -/
  accumulator : Nat := 0
  /-- The path queue, oldest entry first. -/
  queue : List Sample := []
  rejectionRun : Nat := 0
  malformed : Nat := 0
  discarded : Nat := 0
  older : Nat := 0
  filled : Nat := 0
  /-- TRACE_BROKEN is active. -/
  broken : Bool := false
deriving DecidableEq, Repr

/-! ## Steering -/

/-- The steering state. -/
inductive SteerState | home | follow | pinned
deriving DecidableEq, Repr

/-- The PINNED cause; the last three in the order of the STEER_PINNED qualifiers 0..2. -/
inductive PinCause | none | tracking | sensor | coil
deriving DecidableEq, Repr

/-- The steering block (R51 to R61). -/
structure Steering where
  state : SteerState := .home
  cause : PinCause := .none
  /-- The path steer angle, cd. -/
  dp : Int := 0
  /-- δp as it stood at the last steering period, for the SNAPSHOT (R175). -/
  dpSeen : Int := 0
  fade : Nat := 0
  target : Int := 0
  command : Int := 0
  /-- The measured actuator angle, none while it is out of range or not yet read. -/
  measured : Option Int := Option.none
  tracking : Nat := 0
  /-- The tracking counter as it stood at the last steering period, for the SNAPSHOT (R175). -/
  trackingSeen : Nat := 0
  /-- Time to the next STEER_PINNED alert, 0..20 ms. -/
  alertTimer : Nat := 0
  /-- The lock valve, LCK. -/
  lockOn : Bool := false
  actP : Bool := false
  actN : Bool := false
deriving DecidableEq, Repr

/-! ## Sensors with recovery -/

/-- A sensor with a status and a recovery count (R64, R81, R111, R118, R122). -/
structure Sensor (α : Type) where
  valid : Bool := true
  /-- 0..10. -/
  recovery : Nat := 0
  /-- The reading, none while invalid or not yet read. -/
  value : Option α := none
deriving DecidableEq, Repr

/-! ## Joint monitor -/

/-- The joint record (R62 to R73); `angle` is φm with the sensor's status and recovery count. -/
structure Joint where
  angle : Sensor Int := {}
  phiE : Option Int := none
  lastMismatch : Option Nat := none
  mismatch : Nat := 0
  clear : Nat := 0
  jackknife : Bool := false
  limit : Bool := false
  /-- Times to the next alerts, 0..20 ms. -/
  jackTimer : Nat := 0
  limitTimer : Nat := 0
deriving DecidableEq, Repr

/-! ## Brake block -/

/-- The brake state. -/
inductive BrakeState | electric | passthrough
deriving DecidableEq, Repr

/-- A wheel's passthrough cause. -/
inductive PassCause | none | coil | sensor
deriving DecidableEq, Repr

/-- A modulator's position, in the order of R90's table. -/
inductive ModPosition | openToDriver | hold | admitAir | vent
deriving DecidableEq, Repr

/-- The brake block (R74 to R94). -/
structure Brake where
  state : BrakeState := .electric
  cause : Sides PassCause := ⟨.none, .none⟩
  chamber : Sides (Sensor Nat) := ⟨{}, {}⟩
  dUsed : Nat := 0
  mOwn : Nat := 0
  wOwn : Nat := 0
  mTot : Nat := 0
  wSum : Nat := 0
  fBase : Nat := 0
  defSum : Nat := 0
  wNoDef : Nat := 0
  cap : Nat := 0
  takeover : Nat := 0
  pBase : Nat := 0
  pReq : Nat := 0
  /-- The wheel targets as the last brake period read them from slip control (R94). -/
  targets : Sides Nat := ⟨0, 0⟩
  position : Sides ModPosition := ⟨.openToDriver, .openToDriver⟩
  /-- The block drives its modulators: a brake period has come since the last coil sweep began, and found none RUNNING
  (R82). -/
  driving : Bool := false
  deficit : Nat := 0
  confirmed : Bool := false
  /-- Pedal channels, permille; none out of range (CAB). -/
  ped1 : Option Nat := Option.none
  ped2 : Option Nat := Option.none
  d : Nat := 0
  dValid : Bool := false
  /-- The conditions of PEDAL_MISMATCH qualifiers 0, 1 and 2 held at the last brake period. -/
  mismatch0 : Bool := false
  mismatch1 : Bool := false
  mismatch2 : Bool := false
deriving DecidableEq, Repr

/-! ## Slip control -/

/-- A wheel's slip state. -/
inductive WheelState | off | apply | hold | dump
deriving DecidableEq, Repr

/-- One wheel of slip control (R95 to R109). -/
structure Wheel where
  /-- The counts of the last slip periods, newest first, at most ten; a count that is not there is 0. -/
  window : List Nat := []
  /-- Pulses of the present period, 0..255. -/
  count : Nat := 0
  speed : Nat := 0
  slip : Option Nat := none
  state : WheelState := .off
  reapply : Bool := false
  grip : Nat := 0
  lock : Nat := 0
  degraded : Bool := false
  /-- Time to the next BRAKE_DEGRADED alert, 0..20 ms. -/
  alertTimer : Nat := 0
  held : Nat := 0
  target : Nat := 0
deriving DecidableEq, Repr

/-- Slip control. -/
structure Slip where
  wheels : Sides Wheel := ⟨{}, {}⟩
  vref : Nat := 0
deriving DecidableEq, Repr

/-! ## Levelling -/

/-- A corner's valve state. -/
inductive Valve | closed | fill | exhaust
deriving DecidableEq, Repr

/-- The air band. -/
inductive Band | abundant | limited | scarce
deriving DecidableEq, Repr

/-- Where LIMITED was entered from (R123). -/
inductive LimitedFrom | abundant | scarce | startUp
deriving DecidableEq, Repr

/-- A corner record (R110). The height sensor's value is the raw height. -/
structure Corner where
  height : Sensor Int := {}
  trim : Int := 0
  /-- The trim as it stood at the last levelling period, for the SNAPSHOT (R175). -/
  trimSeen : Int := 0
  h : Option Int := none
  target : Int := 0
  err : Option Int := none
  inBand : Nat := 0
  outBand : Nat := 0
  /-- Locked, at the target that `target` holds. -/
  locked : Bool := false
  valve : Valve := .closed
  /-- The valve state as it stood at the last levelling period, for the SNAPSHOT (R175). -/
  valveSeen : Valve := .closed
  calls : Bool := false
  starved : Bool := false
  bellows : Sensor Nat := {}
deriving DecidableEq, Repr

/-- Levelling (R110 to R129). -/
structure Levelling where
  corners : Sides Corner := ⟨{}, {}⟩
  /-- Axle load, 10 kg. -/
  load : Nat := 0
  supply : Sensor Nat := {}
  supplyValue : Option Nat := none
  band : Option Band := none
  limitedFrom : Option LimitedFrom := none
  /-- LIMITED has been entered since the previous window start (R124). -/
  limitedNew : Bool := false
  /-- The supply value recorded at the last window start. -/
  windowSupply : Option Nat := none
  allowance : Nat := 0
  n : Nat := 0
  share : Nat := 0
  limit : Nat := 0
  used : Nat := 0
  /-- Both valve states were CLOSED at the last levelling period (R119). -/
  closedLast : Bool := true
  /-- The first window has started. -/
  started : Bool := false
  /-- Levelling periods elapsed in the present window, 0..99. -/
  elapsed : Nat := 0
  filling : Bool := false
  /-- 0..20,000 ms. -/
  raiseTimer : Nat := 0
deriving DecidableEq, Repr

/-! ## Entrance interlock -/

/-- An entrance's state. -/
inductive EntranceState | locked | released | opened | closing | obstructed | breach | fault
deriving DecidableEq, Repr

/-- An entrance's phase. -/
inductive Phase | held | relocking | driving | latching | none
deriving DecidableEq, Repr

/-- Why an entrance is in FAULT. -/
inductive EntranceCause | none | inconsistent | lockTimeout | closeTimeout
deriving DecidableEq, Repr

/-- An entrance's three outputs (R132). -/
structure SlotOutputs where
  unlock : Bool := false
  openDrive : Bool := false
  closeDrive : Bool := false
deriving DecidableEq, Repr

/-- An entrance record (R130 to R140). -/
structure Entrance where
  state : EntranceState
  phase : Phase := .none
  /-- 0..8000 ms. -/
  timer : Nat := 0
  saved : Nat := 0
  reversals : Nat := 0
  cause : EntranceCause := .none
  /-- Time to the next ENTRANCE_BREACH frame, 0..20 ms. -/
  alertTimer : Nat := 0
  /-- ENTRANCE_BREACH is one of the station's own active alerts (R139). -/
  alerting : Bool := false
  bit : Bool := false
  inputs : SlotInputs := ⟨false, false, false, false⟩
  outputs : SlotOutputs := {}
deriving DecidableEq, Repr

/-- The four terms of R141, in its order. -/
structure ValveTerms where
  byMode : Bool := false
  byStart : Bool := false
  byOpen : Bool := false
  byFault : Bool := false
deriving DecidableEq, Repr

/-- Which of the four conditions of the drive flag held at the last run (R145). -/
structure DriveTerms where
  entrances : Bool := false
  readiness : Bool := false
  articulation : Bool := false
  driver : Bool := false
deriving DecidableEq, Repr

/-- The entrance interlock, and the DEMAND computation of the CAB station (R130 to R147). -/
structure Interlock where
  /-- None until the record is made at the first entrance period, and for a slot that is not fitted. -/
  records : Slots (Option Entrance) := ⟨Option.none, Option.none⟩
  valve : Bool := false
  terms : ValveTerms := {}
  ready : Bool := false
  entLocked : Bool := false
  anyBreach : Bool := false
  /-- Time to the next DEMAND computation, 0..10 ms (CAB). -/
  demandTimer : Nat := 0
  switches : Switches := ⟨false, false, false, false, false, false⟩
  driveTerms : DriveTerms := {}
  driveFlag : Bool := false
  traction : Bool := false
  warning : Bool := false
  entranceLine : Bool := false
deriving DecidableEq, Repr

/-! ## Link controller -/

/-- An entry of the transmit queue. -/
structure Entry where
  kind : Kind
  cls : Nat
  /-- Time in the queue, 0..65535 ms. -/
  time : Nat := 0
  dest : Nat
  payload : List Byte
  inFlight : Bool := false
deriving DecidableEq, Repr

/-- The link controller (R148 to R162). -/
structure Link where
  queue : List Entry := []
  /-- The frame held aside for the entry in flight (R156). -/
  held : Option Entry := none
  ackMiss : Nat := 0
  shed : Bool := false
  listenOnly : Bool := false
  /-- Time to the next STATE, 0..20 ms. -/
  stateTimer : Nat := 0
  received : Nat := 0
  format : Nat := 0
  checkError : Nat := 0
  rejected : Nat := 0
  sent : Nat := 0
  unacked : Nat := 0
  sendError : Nat := 0
  traceDropped : Nat := 0
  displaced : Nat := 0
  queueDropped : Nat := 0
  serviceShed : Nat := 0
  /-- The count of recessive bits toward idle, 0..8 (R149). -/
  recessive : Nat := 0
  /-- Whether the ack slot of the last frame received was driven dominant (R153). -/
  ackDriven : Bool := false
  /-- The bits of the frame in flight as it is driven. -/
  wire : List Bool := []
deriving DecidableEq, Repr

/-! ## Fault list and service -/

/-- The fault codes, in the order of their code numbers 1..15. -/
inductive FaultCode
  | configBad | coilFail | duplicateStation | demandLost | peerLost | traceBroken | steerTrack | jointSensor
  | pedalMismatch | pressureSensor | heightSensor | supplySensor | raiseSlow | entranceFault | linkAlone
deriving DecidableEq, Repr

/-- A fault record (R171). -/
structure FaultRecord where
  code : FaultCode
  qualifier : Nat
  firstSeen : Nat
  count : Nat
  active : Bool
deriving DecidableEq, Repr

/-- The fault list. -/
structure FaultList where
  records : List FaultRecord := []
  overflow : Bool := false
  seconds : Nat := 0
  /-- Milliseconds since the seconds counter last grew (R172). -/
  millis : Nat := 0
deriving DecidableEq, Repr

/-- The reply slot (R174). -/
inductive ReplySlot | free | waiting | queued
deriving DecidableEq, Repr

/-- A reply that is ready: its destination and payload. -/
structure Reply where
  dest : Nat
  payload : List Byte
deriving DecidableEq, Repr

/-- The service block (R174 to R177). -/
structure Service where
  slot : ReplySlot := .free
  /-- A COIL_SWEEP reply that is ready while the slot is QUEUED. -/
  heldReply : Option Reply := none
  /-- Who asked for the COIL_SWEEP whose reply is pending. -/
  sweepFor : Option (Fin 8) := none
  busyDrop : Nat := 0
  unknown : Nat := 0
  /-- The capture last taken: one list of bytes for each block, in the order of the block overview. -/
  capture : Option (List (List Byte)) := none
  /-- An allowed RESTART waits for the slot to be FREE. -/
  restartArmed : Bool := false
deriving DecidableEq, Repr

/-! ## The station -/

/-- The state of the part, and the queue of the commands that wait. -/
structure State where
  /-- The commands waiting, first in, first out. -/
  pending : List Instr := []
  startUp : StartUp := {}
  ladder : Ladder := {}
  peerView : PeerView := {}
  tracker : Tracker := {}
  steering : Steering := {}
  joint : Joint := {}
  brake : Brake := {}
  slip : Slip := {}
  levelling : Levelling := {}
  interlock : Interlock := {}
  link : Link := {}
  faults : FaultList := {}
  service : Service := {}
deriving DecidableEq, Repr

/-- The part right after a power-on reset (R163), before START's first step has read the straps: every block at the
reset value of its chapter, no command waiting. -/
def State.reset : State := {}

end Sys2Proof.Machine
end

