-- ==== Sys2Proof/Machine/Operands.lean ====
section
/-! DEFINITION. What a step reads: the level on an analogue input as the quantity it stands for, a sensor with its
recovery count, the working configuration, and the values the peer view hands its readers (R24, R25, R29, R33). -/

namespace Sys2Proof.Machine

/-! ## Pairs and slots -/

/-- The value of one side. -/
def atSide {α : Type} (p : Sides α) : Side → α
  | .left => p.left
  | .right => p.right

/-- The pair with one side replaced. -/
def putSide {α : Type} (p : Sides α) (a : α) : Side → Sides α
  | .left => { p with left := a }
  | .right => { p with right := a }

/-- The value of one slot. -/
def atSlot {α : Type} (p : Slots α) : Slot → α
  | .zero => p.zero
  | .one => p.one

/-- The slots with one replaced. -/
def putSlot {α : Type} (p : Slots α) (a : α) : Slot → Slots α
  | .zero => { p with zero := a }
  | .one => { p with one := a }

/-- Slot number, 0..1. -/
def slotNumber : Slot → Nat
  | .zero => 0
  | .one => 1

/-- 0 for the left, 1 for the right, as the qualifiers number them. -/
def sideNumber : Side → Nat
  | .left => 0
  | .right => 1

/-- The other side. -/
def otherSide : Side → Side
  | .left => .right
  | .right => .left

/-! ## Levels as quantities -/

/-- 0.5..4.5 V. -/
def levelInRange (v : Microvolt) : Bool := 500000 ≤ v && v ≤ 4500000

/-- STA and JNT: 2.5 V is 0, each volt 3000 cd (R39, R63). -/
def angleOf (v : Microvolt) : Int := roundHalfAway (3 * ((v : Int) - 2500000)) 1000

/-- A valid STA reading lies within 0.5..4.5 V and −4500..+4500 cd (R39). -/
def steerReading (v : Microvolt) : Option Int :=
  if levelInRange v && decide (-4500 ≤ angleOf v) && decide (angleOf v ≤ 4500) then some (angleOf v) else none

/-- A valid JNT reading lies within 0.5..4.5 V (R63). -/
def jointReading (v : Microvolt) : Option Int := if levelInRange v then some (angleOf v) else none

/-- PED: 0.5 V is 0 permille, 250 permille each volt (R76). -/
def pedalReading (v : Microvolt) : Option Nat :=
  if levelInRange v then some (roundHalfUp (v - 500000) 4000) else none

/-- PCH: 0.5 V is 0 kPa, 300 kPa each volt (R81). -/
def chamberReading (v : Microvolt) : Option Nat :=
  if levelInRange v then some (roundHalfUp (3 * (v - 500000)) 10000) else none

/-- PBL: 0.5 V is 0 kPa, 250 kPa each volt (R118). -/
def bellowsReading (v : Microvolt) : Option Nat :=
  if levelInRange v then some (roundHalfUp (v - 500000) 4000) else none

/-- PSUP: 0.5 V is 0 kPa, 320 kPa each volt, saturated to 0..1270 (R122). -/
def supplyReading (v : Microvolt) : Option Nat :=
  if levelInRange v then some (min 1270 (roundHalfUp (8 * (v - 500000)) 25000)) else none

/-- HGT: 2.5 V is 0 mm, each volt 75 mm (R110). -/
def heightReading (v : Microvolt) : Option Int :=
  if levelInRange v then some (roundHalfAway (3 * ((v : Int) - 2500000)) 40000) else none

/-! ## A sensor with a recovery count -/

/-- What a reading means for the sensor's fault: raised (afresh or again), ended by recovery, or neither. -/
inductive SensorEvent | raised | ended | quiet
deriving DecidableEq, Repr

/-- One reading taken by a sensor (R64, R81, R111, R118, R122). An out-of-range reading makes it INVALID with count 0
and no value; a valid one is taken at once while VALID, and counts toward recovery while INVALID, where the tenth in a
row makes the sensor VALID with that reading; the count then stays at 10 (log entry 13). -/
def Sensor.read {α : Type} (q : Sensor α) : Option α → Sensor α × SensorEvent
  | none => ({ valid := false, recovery := 0, value := none }, .raised)
  | some x =>
    if q.valid then ({ q with value := some x }, .quiet)
    else if q.recovery + 1 < 10 then ({ q with recovery := q.recovery + 1 }, .quiet)
    else ({ valid := true, recovery := 10, value := some x }, .ended)

/-- The reading would bring an INVALID sensor's recovery count to 10. -/
def Sensor.recovers {α : Type} (q : Sensor α) (reading : Option α) : Bool :=
  !q.valid && reading.isSome && 10 ≤ q.recovery + 1

/-! ## The working configuration -/

/-- The working configuration the blocks act on. -/
def State.cfg (s : State) : Image := s.startUp.config.getD defaultImage

/-- The own station number. -/
def State.own (s : State) : Fin 8 := s.startUp.strap.getD 0

/-- The start-up block has accepted the configuration or has put the default image in its place. -/
def State.loaded (s : State) : Bool := s.startUp.status != .notLoaded

/-- Station `n` is a peer: in the present mask and not the own number (R19). -/
def State.isPeer (s : State) (n : Fin 8) : Bool := s.cfg.present.getLsbD n.val && n != s.own

/-- The peers, in station number order. -/
def State.peerNumbers (s : State) : List (Fin 8) := (List.finRange 8).filter s.isPeer

/-- The station has the CAB role in an accepted configuration. -/
def State.isCab (s : State) : Bool := s.loaded && s.cfg.role == .cab

/-- The station has a steering block (R51). -/
def State.hasSteering (s : State) : Bool := s.loaded && s.cfg.role == .steer

/-- The station has a joint monitor (R62). -/
def State.hasJoint (s : State) : Bool := s.loaded && s.cfg.joint.isSome

/-- The station has a path queue (R41). -/
def State.hasPath (s : State) : Bool := s.hasSteering || s.hasJoint

/-! ## What the peer view hands its readers -/

/-- The record a FRESH or STALE entry hands out; a LOST or ABSENT one hands out substitutes (R24, R25). -/
def Peer.heard (p : Peer) : Option PeerRecord :=
  match p.freshness with
  | .fresh => p.record
  | .stale => p.record
  | .lost => none
  | .absent => none

/-- The record while the entry is FRESH alone: what a reader of deficit, filling and speed gets (R24). -/
def Peer.freshRecord (p : Peer) : Option PeerRecord :=
  match p.freshness with
  | .fresh => p.record
  | .stale => none
  | .lost => none
  | .absent => none

/-- The entry of station `n`. -/
def State.peer (s : State) (n : Fin 8) : Peer := s.peerView.peers[n]

/-- The load of peer `n` (R24, R25). -/
def State.peerLoad (s : State) (n : Fin 8) : Nat :=
  match (s.peer n).heard with
  | some r => r.load
  | none => s.cfg.nominal[n]

/-- The section of peer `n`. -/
def State.peerSection (s : State) (n : Fin 8) : Nat :=
  match (s.peer n).heard with
  | some r => r.sect
  | none => s.cfg.sections[n]

/-- The deficit of peer `n` in 10 N: 0 unless FRESH. -/
def State.peerDeficit (s : State) (n : Fin 8) : Nat :=
  match (s.peer n).freshRecord with
  | some r => r.deficit
  | none => 0

/-- The filling flag of peer `n`: false unless FRESH. -/
def State.peerFilling (s : State) (n : Fin 8) : Bool :=
  match (s.peer n).freshRecord with
  | some r => r.filling
  | none => false

/-- READY of peer `n`, held through STALE. -/
def State.peerReady (s : State) (n : Fin 8) : Bool :=
  match (s.peer n).heard with
  | some r => r.ready
  | none => false

/-- ENT_LOCKED of peer `n`, held through STALE. -/
def State.peerEntLocked (s : State) (n : Fin 8) : Bool :=
  match (s.peer n).heard with
  | some r => r.entLocked
  | none => false

/-- Any breach of peer `n`, held through STALE. -/
def State.peerBreach (s : State) (n : Fin 8) : Bool :=
  match (s.peer n).heard with
  | some r => r.anyBreach
  | none => false

/-- The mode peer `n` reports, if any. -/
def State.peerMode (s : State) (n : Fin 8) : Option Mode := (s.peer n).heard.map (·.mode)

/-- The supply pressure peer `n` reports, if any. -/
def State.peerSupply (s : State) (n : Fin 8) : Option Nat := (s.peer n).heard.bind (·.supply)

/-- The speed of peer `n` for slip control: FRESH entries alone (R99). -/
def State.peerSpeed (s : State) (n : Fin 8) : Option Nat := (s.peer n).freshRecord.map (·.speed)

/-- The DEMAND record's values as they read to its readers: the held ones, all clear while ABSENT (R29). -/
def State.demand (s : State) : DemandValues :=
  match s.peerView.demand.freshness with
  | .absent => {}
  | .fresh => s.peerView.demand.values
  | .stale => s.peerView.demand.values
  | .lost => s.peerView.demand.values

/-- The DEMAND record's freshness. -/
def State.demandFreshness (s : State) : Freshness := s.peerView.demand.freshness

/-- The own speed: the mean of both wheel speeds, rounded toward zero (R3, R96). -/
def State.ownSpeed (s : State) : Nat := (s.slip.wheels.left.speed + s.slip.wheels.right.speed) / 2

/-! ## Alerts -/

/-- Is JACKKNIFE active for joint `j`? (R33) -/
def State.jackknifed (s : State) (j : Nat) : Bool :=
  (s.joint.jackknife && s.cfg.joint.map (·.val) == some j) ||
    s.peerView.alerts.any (fun a => a.code == .jackknife && a.qualifier.toNat == j)

/-- Is any JACKKNIFE active? (R33) -/
def State.anyJackknife (s : State) : Bool := s.jackknifed 0 || s.jackknifed 1 || s.jackknifed 2

/-- One entrance is alerting (R139). -/
def entranceAlerting (r : Option Entrance) : Bool :=
  match r with
  | some e => e.alerting
  | none => false

/-- The station has an own active alert: a condition for which it sends ALERT frames (R33). -/
def State.ownAlert (s : State) : Bool :=
  s.joint.jackknife || s.joint.limit || s.steering.state == .pinned || s.slip.wheels.left.degraded ||
    s.slip.wheels.right.degraded || entranceAlerting s.interlock.records.zero || entranceAlerting s.interlock.records.one

/-- Is any alert active? (R33) -/
def State.anyAlert (s : State) : Bool := !s.peerView.alerts.isEmpty || s.ownAlert

/-! ## Coils and sweep -/

/-- The result of coil `i`. -/
def State.coil (s : State) (i : Nat) : CoilResult := s.startUp.coils.toList.getD i .untested

/-- The coil results show FAIL for coil `i`. -/
def State.coilFailed (s : State) (i : Nat) : Bool := s.coil i == .fail

/-- A coil sweep is RUNNING. -/
def State.sweeping (s : State) : Bool := s.startUp.sweep.state == .running

/-- The two modulator coils of a wheel: 0 and 1, or 2 and 3. -/
def wheelCoils : Side → Nat × Nat
  | .left => (0, 1)
  | .right => (2, 3)

/-- The fill and exhaust coils of a corner: 4 and 5, or 6 and 7. -/
def cornerCoils : Side → Nat × Nat
  | .left => (4, 5)
  | .right => (6, 7)

end Sys2Proof.Machine
end

