-- ==== Sys2Proof/Machine/Flags.lean ====
section
/-! DEFINITION. The flags the blocks hand one another and the bus: the own entrance conditions, ENT_LOCKED, any breach
and READY (R142, R143), queue readiness (R47), the causes of BACKUP (R16), the conditions of the coil sweep (R167, R169),
the air permission (R126, R128) and the fault summary byte (R173). -/

namespace Sys2Proof.Machine

/-! ## Own entrances -/

/-- A slot satisfies `p`: it is not fitted, or its record is made and satisfies `p`. -/
def slotHolds (fitted : Bool) (r : Option Entrance) (p : Entrance → Bool) : Bool :=
  !fitted || (match r with
    | some e => p e
    | none => false)

/-- Every own entrance satisfies `p`; a station with no fitted slot passes (R130). A fitted slot whose record is not
yet made does not pass (log entry 11). -/
def State.everyEntrance (s : State) (p : Entrance → Bool) : Bool :=
  slotHolds s.cfg.fitted.zero s.interlock.records.zero p && slotHolds s.cfg.fitted.one s.interlock.records.one p

/-- Some own entrance has a record that satisfies `p`. -/
def State.someEntrance (s : State) (p : Entrance → Bool) : Bool :=
  (match s.interlock.records.zero with
    | some e => p e
    | none => false) ||
  (match s.interlock.records.one with
    | some e => p e
    | none => false)

/-- LOCKED. -/
def Entrance.isLocked (e : Entrance) : Bool := e.state == .locked

/-- RELEASED, OPEN, CLOSING or OBSTRUCTED. -/
def Entrance.isOpenish (e : Entrance) : Bool :=
  e.state == .released || e.state == .opened || e.state == .closing || e.state == .obstructed

/-- FAULT or BREACH. -/
def Entrance.isFaulty (e : Entrance) : Bool := e.state == .fault || e.state == .breach

/-- BREACH. -/
def Entrance.isBreach (e : Entrance) : Bool := e.state == .breach

/-- Every own entrance is LOCKED. -/
def State.allLocked (s : State) : Bool := s.everyEntrance Entrance.isLocked

/-- The own entrance condition of STOP to DRIVE (R11). -/
def State.driveEntrances (s : State) : Bool :=
  s.everyEntrance (fun e => e.isLocked || (s.demand.ovr && e.isFaulty))

/-- No own entrance is RELEASED, OPEN, CLOSING or OBSTRUCTED (R7). -/
def State.noneOpen (s : State) : Bool := s.everyEntrance (fun e => !e.isOpenish)

/-- Any own entrance is in BREACH (R142). -/
def State.breached (s : State) : Bool := s.someEntrance Entrance.isBreach

/-! ## READY -/

/-- A corner handed over as VALID with h below −30 mm fails; one without a height takes no part (R143, log
entry 20). -/
def Corner.highEnough (c : Corner) : Bool :=
  !c.height.valid || (match c.h with
    | some h => decide (-30 ≤ h)
    | none => true)

/-- READY (R143). -/
def State.readyNow (s : State) : Bool :=
  match s.ladder.mode with
  | .park => false
  | .kneel => false
  | .knelt => false
  | .raise => false
  | .start => !(s.ladder.qualifier == .standstill) || (s.levelling.corners.left.highEnough && s.levelling.corners.right.highEnough)
  | .stop => !(s.ladder.qualifier == .standstill) || (s.levelling.corners.left.highEnough && s.levelling.corners.right.highEnough)
  | .drive => !(s.ladder.qualifier == .standstill) || (s.levelling.corners.left.highEnough && s.levelling.corners.right.highEnough)
  | .backup => !(s.ladder.qualifier == .standstill) || (s.levelling.corners.left.highEnough && s.levelling.corners.right.highEnough)

/-! ## Path queue -/

/-- The greater of the offsets that apply (R41). -/
def State.greaterOffset (s : State) : Nat :=
  max (if s.hasSteering then s.cfg.axleOffset else 0) (if s.hasJoint then s.cfg.jointOffset else 0)

/-- D_need (R41). -/
def State.depthNeeded (s : State) : Nat := s.greaterOffset + 1

/-- The queue is ready: the station has one and it holds D_need entries (R47). -/
def State.pathReady (s : State) : Bool := s.hasPath && s.depthNeeded ≤ s.tracker.queue.length

/-- The newest index, that of the tail. -/
def newestIndex (queue : List Sample) : Option Half := queue.getLast?.map (·.index)

/-- The due entry of an offset: the entry whose index is newest − offset (R47). -/
def dueEntry (queue : List Sample) (offset : Nat) : Option Sample :=
  (newestIndex queue).bind fun newest => queue.find? (fun e => e.index == newest - BitVec.ofNat 16 offset)

/-! ## Causes of BACKUP -/

/-- The record is still ABSENT at 2000 ms of START (R8). -/
def State.neverHeard (s : State) : Bool :=
  s.ladder.mode == .start && 2000 ≤ s.ladder.startupTimer && s.demandFreshness == .absent

/-- A cause of BACKUP holds (R16). -/
def State.backupCause (s : State) : Bool :=
  s.demandFreshness == .lost || s.peerView.duplicate || s.startUp.status == .bad || s.neverHeard ||
    (s.ladder.mode == .start && s.ladder.noDemandCause)

/-! ## Coil sweep -/

/-- START or PARK. -/
def sweepMode (m : Mode) : Bool := m == .start || m == .park

/-- The conditions that a sweep needs to start and to go on, but for the configuration (R167, R169): the mode, the
standstill, D = 0, the record not LOST, every own entrance LOCKED. -/
def State.sweepMayRun (s : State) : Bool :=
  sweepMode s.ladder.mode && s.ladder.qualifier == .standstill && s.demand.d == 0 && s.demandFreshness != .lost &&
    s.allLocked

/-- The sweep's start conditions (R167). -/
def State.sweepMayStart (s : State) : Bool := s.sweepMayRun && s.startUp.status == .good

/-! ## Air -/

/-- The band allows the mode to fill (R126, R128). While there is no band it does (log entry 36). -/
def State.airAllowed (s : State) : Bool :=
  s.levelling.band != some .scarce || s.ladder.mode == .raise || s.ladder.mode == .backup

/-! ## Fault summary -/

/-- The bit of the fault summary a code sets (R173). -/
def summaryBit : FaultCode → Nat
  | .configBad => 0
  | .duplicateStation => 0
  | .coilFail => 1
  | .demandLost => 2
  | .peerLost => 2
  | .linkAlone => 2
  | .traceBroken => 3
  | .steerTrack => 3
  | .jointSensor => 3
  | .pedalMismatch => 4
  | .pressureSensor => 4
  | .heightSensor => 5
  | .supplySensor => 5
  | .raiseSlow => 5
  | .entranceFault => 6

/-- Bit `b` of the summary: an active record's code sets it; bit 7 is the overflow flag (R173). -/
def FaultList.summaryHas (f : FaultList) (b : Nat) : Bool :=
  if b == 7 then f.overflow else f.records.any (fun r => r.active && summaryBit r.code == b)

/-- The fault summary byte as a number. -/
def FaultList.summary (f : FaultList) : Nat :=
  (List.range 8).foldl (fun acc b => acc + (if f.summaryHas b then 2 ^ b else 0)) 0

end Sys2Proof.Machine
end

