-- ==== Sys2Proof/Machine/Ops.lean ====
section
/-! DEFINITION. The shared operations of the blocks: raising and ending a fault (R171), the transmit queue (R155 to
R160), the reply slot (R174), alerts, the end of a coil sweep (R166, R169, R177) and the STATE frame (R161). -/

namespace Sys2Proof.Machine

/-! ## The fault list -/

/-- The record with this code and qualifier. -/
def FaultRecord.is (r : FaultRecord) (code : FaultCode) (q : Nat) : Bool := r.code == code && r.qualifier == q

/-- A block raises a fault (R171). -/
def FaultList.raise (f : FaultList) (code : FaultCode) (q : Nat) : FaultList :=
  if f.records.any (·.is code q) then
    { f with records := f.records.map fun r =>
        if r.is code q then { r with active := true, count := growTo 255 1 r.count } else r }
  else if f.records.length < 16 then
    { f with records := f.records ++ [⟨code, q, f.seconds, 1, true⟩] }
  else if f.records.any (fun r => !r.active) then
    { f with records := f.records.eraseP (fun r => !r.active) ++ [⟨code, q, f.seconds, 1, true⟩] }
  else { f with overflow := true }

/-- A block reports that a fault's condition has ended (R171). -/
def FaultList.finish (f : FaultList) (code : FaultCode) (q : Nat) : FaultList :=
  { f with records := f.records.map fun r => if r.is code q then { r with active := false } else r }

/-- The station raises a fault. -/
def State.raise (s : State) (code : FaultCode) (q : Nat) : State := { s with faults := s.faults.raise code q }

/-- The station ends a fault. -/
def State.finish (s : State) (code : FaultCode) (q : Nat) : State := { s with faults := s.faults.finish code q }

/-- What a sensor's reading does to its fault. -/
def State.sensorFault (s : State) (e : SensorEvent) (code : FaultCode) (q : Nat) : State :=
  match e with
  | .raised => s.raise code q
  | .ended => s.finish code q
  | .quiet => s

/-! ## The transmit queue -/

/-- The service shed flag after an entry has joined or left (R159). -/
def Link.updateShed (l : Link) : Link :=
  if 6 ≤ l.queue.length then { l with shed := true }
  else if l.queue.length ≤ 3 then { l with shed := false }
  else l

/-- What became of a frame offered: whether it holds a place (or stands aside for one), and whether a SERVICE_REPLY
left the queue for it. -/
structure OfferResult where
  placed : Bool
  replyLeft : Bool
deriving DecidableEq, Repr

/-- The greatest class number among the entries not in flight (R157). -/
def leastUrgent (queue : List Entry) : Option Nat :=
  (queue.filter (fun e => !e.inFlight)).foldl (fun acc e => some (max (acc.getD 0) e.cls)) none

/-- Whether an entry may be displaced for a class: not in flight and of that class. -/
def Entry.displaceable (cls : Nat) (e : Entry) : Bool := !e.inFlight && e.cls == cls

/-- The queue without the last appended entry that may be displaced. -/
def removeYoungest (cls : Nat) (queue : List Entry) : List Entry :=
  (queue.reverse.eraseP (Entry.displaceable cls)).reverse

/-- The last appended entry that may be displaced. -/
def youngest (cls : Nat) (queue : List Entry) : Option Entry := queue.reverse.find? (Entry.displaceable cls)

/-- A frame is to be appended (R157). -/
def Link.append (l : Link) (e : Entry) : Link × OfferResult :=
  if l.queue.length < 8 then
    ({ l with queue := l.queue ++ [e] }.updateShed, ⟨true, false⟩)
  else
    match leastUrgent l.queue with
    | none => ({ l with queueDropped := bump l.queueDropped }, ⟨false, false⟩)
    | some c =>
      if e.cls < c then
        ({ l with queue := removeYoungest c l.queue ++ [e], displaced := bump l.displaced }.updateShed,
          ⟨true, (youngest c l.queue).any (fun x => x.kind == .serviceReply)⟩)
      else ({ l with queueDropped := bump l.queueDropped }, ⟨false, false⟩)

/-- The entry that a frame of a kind that is held once replaces: the STATE, the DEMAND, or the ALERT with the same
code and qualifier, which are the alert's whole payload (R156). -/
def Entry.twin (e x : Entry) : Bool :=
  x.kind == e.kind && (e.kind != .alert || x.payload == e.payload)

/-- A TRACE that may be dropped for a fifth: not in flight. -/
def Entry.spareTrace (e : Entry) : Bool := e.kind == .trace && !e.inFlight

/-- A frame whose kind is held once is offered (R156). -/
def Link.offerSingle (l : Link) (e : Entry) : Link × OfferResult :=
  if l.queue.any (fun x => e.twin x && x.inFlight) then ({ l with held := some e }, ⟨true, false⟩)
  else if l.queue.any (fun x => e.twin x) then
    ({ l with queue := l.queue.map fun x => if e.twin x then { x with payload := e.payload } else x }, ⟨true, false⟩)
  else l.append e

/-- A TRACE is offered (R156). -/
def Link.offerTrace (l : Link) (e : Entry) : Link × OfferResult :=
  if (l.queue.filter (fun x => x.kind == .trace)).length < 4 then l.append e
  else
    Link.append
      { l with queue := l.queue.eraseP Entry.spareTrace, traceDropped := bump l.traceDropped }.updateShed e

/-- A frame is offered to the queue (R156); a listen-only station refuses every one uncounted (R160). -/
def Link.offer (l : Link) (e : Entry) : Link × OfferResult :=
  if l.listenOnly then (l, ⟨false, false⟩)
  else
    match e.kind with
    | .state => l.offerSingle e
    | .demand => l.offerSingle e
    | .alert => l.offerSingle e
    | .trace => l.offerTrace e
    | .serviceReq => l.append e
    | .serviceReply => l.append e

/-- A new entry of a kind. -/
def newEntry (k : Kind) (dest : Nat) (payload : List Byte) : Entry := { kind := k, cls := k.cls, dest, payload }

/-! ## The reply slot -/

/-- The slot when no reply is in the queue: WAITING while a COIL_SWEEP reply is pending, else FREE (R174, log
entry 17). -/
def Service.idleSlot (v : Service) : ReplySlot := if v.sweepFor.isSome then .waiting else .free

/-- A reply is offered to the queue: the slot is QUEUED, or idle at once when the queue does not take it (R174). A
SERVICE_REPLY never displaces another. -/
def State.offerReply (s : State) (r : Reply) : State :=
  let (l, res) := s.link.offer (newEntry .serviceReply r.dest r.payload)
  { s with
    link := l
    service := { s.service with slot := if res.placed then .queued else s.service.idleSlot } }

/-- The link controller reports that a reply has left the queue: the slot is idle, and a held sweep reply is offered
(R157, R174). -/
def State.replyLeft (s : State) : State :=
  match s.service.heldReply with
  | none => { s with service := { s.service with slot := s.service.idleSlot } }
  | some r => { s with service := { s.service with heldReply := none } }.offerReply r

/-- A block offers a frame, and the service block is told of a reply displaced for it (R157). -/
def State.offer (s : State) (e : Entry) : State :=
  let (l, res) := s.link.offer e
  if res.replyLeft then { s with link := l }.replyLeft else { s with link := l }

/-- An ALERT is queued to all stations. -/
def State.offerAlert (s : State) (code : AlertCode) (q : Nat) : State :=
  s.offer (newEntry .alert 8 [BitVec.ofNat 8 (alertNumber code), BitVec.ofNat 8 q])

/-! ## The end of an attempt to send -/

/-- An entry is in flight. -/
def Link.sending (l : Link) : Bool := l.queue.any (·.inFlight)

/-- The kind of the entry in flight. -/
def Link.sendingKind (l : Link) : Option Kind := (l.queue.find? (·.inFlight)).map (·.kind)

/-- The entry in flight leaves, and a frame held aside for it joins as a new entry with the time of that moment
(R156), in the class of its kind (log entry 18). -/
def Link.attemptEnds (l : Link) : Link :=
  let gone := { l with queue := l.queue.filter (fun e => !e.inFlight), held := none, wire := [] }.updateShed
  match l.held with
  | none => gone
  | some e => (gone.append { e with time := 0, inFlight := false }).1

/-- The attempt is lost in arbitration: the entry stays in its place with the payload held aside for it (R155, R156);
on a listen-only station no further attempt is made, and the entry leaves (R160). -/
def Link.attemptLost (l : Link) : Link :=
  if l.listenOnly then l.attemptEnds
  else
    { l with
      queue := l.queue.map fun e =>
        if e.inFlight then
          { e with inFlight := false, payload := match l.held with
              | some h => h.payload
              | none => e.payload }
        else e
      held := none
      wire := [] }

/-- The identifier of an entry sent by station `own` (R151). -/
def Entry.ident (e : Entry) (own : Fin 8) : Nat := identifier e.cls e.kind.code own.val

/-- The entry sent next: the lowest identifier, and among equals the one longest in the queue (R155). -/
def pickEntry (own : Fin 8) (best : Option Entry) : List Entry → Option Entry
  | [] => best
  | e :: rest =>
    match best with
    | none => pickEntry own (some e) rest
    | some b => pickEntry own (some (if e.ident own < b.ident own then e else b)) rest

/-- The first entry equal to `e` goes in flight. -/
def markInFlight (e : Entry) : List Entry → List Entry
  | [] => []
  | x :: rest => if x == e then { x with inFlight := true } :: rest else x :: markInFlight e rest

/-! ## Listen-only -/

/-- The link controller becomes listen-only (R35, R160): the queue is emptied but for the entry in flight, the frame
held aside is discarded, the STATE timer stops. -/
def Link.silence (l : Link) : Link :=
  { l with queue := l.queue.filter (·.inFlight), held := none, listenOnly := true }.updateShed

/-- A SERVICE_REPLY waits in the queue, not in flight. -/
def Link.replyWaits (l : Link) : Bool := l.queue.any (fun e => e.kind == .serviceReply && !e.inFlight)

/-- The station goes listen-only, and the service block is told of a reply cleared (R157, R160). -/
def State.silence (s : State) : State :=
  if s.link.replyWaits && !s.link.listenOnly then { s with link := s.link.silence }.replyLeft
  else { s with link := s.link.silence }

/-! ## The coil sweep -/

/-- Coil 9 exists on a STEER station; other stations have coils 0 to 8 (R167). -/
def State.coilCount (s : State) : Nat := if s.cfg.role == .steer then 10 else 9

/-- The number of a result in a COIL_SWEEP reply. -/
def CoilResult.number : CoilResult → Nat
  | .untested => 0
  | .pass => 1
  | .fail => 2

/-- The reply of an ended COIL_SWEEP: OK and one byte per coil (R177). -/
def State.sweepReply (s : State) (tool : Fin 8) : Reply :=
  ⟨tool.val, [BitVec.ofNat 8 Request.coilSweep.code, BitVec.ofNat 8 Result.ok.code] ++
    (s.startUp.coils.toList.take s.coilCount).map fun c => BitVec.ofNat 8 c.number⟩

/-- A ready sweep reply is offered, or held while the slot is QUEUED (R174, log entry 27). -/
def State.giveSweepReply (s : State) : State :=
  match s.service.sweepFor with
  | none => s
  | some tool =>
    let r := s.sweepReply tool
    let t := { s with service := { s.service with sweepFor := none } }
    if s.service.slot == .queued then { t with service := { t.service with heldReply := some r } }
    else t.offerReply r

/-- The sweep ends DONE or ABORTED: start-up is done when the station is still in START (R166, log entry 28),
and a COIL_SWEEP request is answered (R177). -/
def State.endSweep (s : State) (how : SweepState) : State :=
  State.giveSweepReply
    { s with startUp := { s.startUp with
        sweep := { s.startUp.sweep with state := how }
        done := s.startUp.done || s.ladder.mode == .start } }

/-- A RUNNING sweep whose conditions no longer hold is aborted at once (R169). The registers and counts stay as they
stood (log entry 37). -/
def State.checkSweep (s : State) : State :=
  if s.sweeping && !s.sweepMayRun then s.endSweep .aborted else s

/-- The lowest coil from `i` on that exists and is not FAIL; `n` bounds the search. -/
def State.nextCoil (s : State) : Nat → Nat → Option Nat
  | 0, _ => none
  | n + 1, i =>
    if s.coilCount ≤ i then none
    else if s.coilFailed i then s.nextCoil n (i + 1)
    else some i

/-- The test of coil `i` begins (R168). -/
def State.beginCoil (s : State) (i : Nat) : State :=
  { s with startUp := { s.startUp with sweep :=
      { state := .running, coil := i, step := 0, pattern := 0xACE1#16 ^^^ BitVec.ofNat 16 s.own.val, driveSig := 0, senseSig := 0 } } }

/-- The sweep goes on from coil `i`: the next coil to test, or DONE when every coil has been tested or passed over
(R167). -/
def State.sweepFrom (s : State) (i : Nat) : State :=
  match s.nextCoil 10 i with
  | some c => s.beginCoil c
  | none => s.endSweep .done

/-- A sweep that starts takes the coils from their blocks at once: the brake block drives none (R82), both levelling
valves are recorded as CLOSED (R117), the lock valve and the bridge are off and the tracking counter is held at 0 (R55,
R61). Each block drives again from its first period after the sweep (log entry 31). -/
def State.handOver (s : State) : State :=
  { s with
    brake := { s.brake with driving := false }
    levelling := { s.levelling with corners :=
      ⟨{ s.levelling.corners.left with valve := .closed }, { s.levelling.corners.right with valve := .closed }⟩ }
    steering := { s.steering with tracking := 0, lockOn := false, actP := false, actN := false } }

/-- A sweep starts, from the lowest coil (R167). -/
def State.startSweep (s : State) : State := s.handOver.sweepFrom 0

/-! ## The STATE frame -/

/-- Mode code numbers. -/
def Mode.code : Mode → Nat
  | .start => 0
  | .park => 1
  | .stop => 2
  | .kneel => 3
  | .knelt => 4
  | .raise => 5
  | .drive => 6
  | .backup => 7

/-- Role code numbers. -/
def roleNumber : Role → Nat
  | .cab => 0
  | .plain => 1
  | .steer => 2

/-- The value of flag bit `b`. -/
def flagBit (x : Bool) (b : Nat) : Nat := if x then 2 ^ b else 0

/-- The own supply reading: the converted value while the sensor is fitted and VALID (R122). -/
def State.ownSupply (s : State) : Option Nat :=
  if s.cfg.supplyFitted && s.levelling.supply.valid then s.levelling.supply.value else none

/-- The deficit field: N divided by 10, rounded down, held at 65535 (R92). -/
def State.deficitField (s : State) : Nat := min 65535 (s.brake.deficit / 10)

/-- The payload of a STATE formed now (R161): 11 bytes with the supply field, 9 without. -/
def State.statePayload (s : State) : List Byte :=
  [BitVec.ofNat 8 (64 * s.cfg.sections[s.own] + 16 * roleNumber s.cfg.role + s.ladder.mode.code)] ++
  bytesOf 2 s.levelling.load ++ bytesOf 2 s.ownSpeed ++ bytesOf 2 s.deficitField ++
  [BitVec.ofNat 8 (flagBit s.levelling.filling 0 + flagBit s.interlock.ready 1 + flagBit s.interlock.entLocked 2 +
      flagBit s.brake.confirmed 3 + flagBit s.interlock.anyBreach 4 + flagBit s.ownSupply.isSome 5),
   BitVec.ofNat 8 s.faults.summary] ++
  (match s.ownSupply with
    | some p => bytesOf 2 p
    | none => [])

/-- A STATE is formed and offered (R161). -/
def State.offerState (s : State) : State := s.offer (newEntry .state 8 s.statePayload)

end Sys2Proof.Machine
end

