-- ==== Sys2Proof/Machine/LevellingOps.lean ====
section
/-! DEFINITION. Levelling, kneeling and the air budget (R110 to R129): the levelling period. -/

namespace Sys2Proof.Machine

/-- A corner replaced. -/
def State.putCorner (s : State) (side : Side) (c : Corner) : State :=
  { s with levelling := { s.levelling with corners := putSide s.levelling.corners c side } }

/-- The corner of a side. -/
def State.corner (s : State) (side : Side) : Corner := atSide s.levelling.corners side

/-! ## Stage 1: sensors -/

/-- h: the raw height less the trim, clamped to ±150 (R110). -/
def heightAbove (raw trim : Int) : Int := clampInt (-150) 150 (raw - trim)

/-- The corner after a height reading: an excluded corner has no height and no error (log entry 35), its counters are 0,
it is not locked, calls for no fill and its valve is CLOSED (R111). -/
def Corner.withHeight (c : Corner) (q : Sensor Int) : Corner :=
  if q.valid then { c with height := q, h := q.value.map fun raw => heightAbove raw c.trim }
  else
    { c with
      height := q
      h := none
      err := none
      inBand := 0
      outBand := 0
      locked := false
      calls := false
      starved := false
      valve := .closed }

/-- One height sensor is read (R111). -/
def State.readHeight (s : State) (side : Side) (v : Microvolt) : State :=
  let (q, e) := (s.corner side).height.read (heightReading v)
  (s.putCorner side ((s.corner side).withHeight q)).sensorFault e .heightSensor (sideNumber side)

/-- One bellows sensor is read (R118). -/
def State.readBellows (s : State) (side : Side) (v : Microvolt) : State :=
  let (q, e) := (s.corner side).bellows.read (bellowsReading v)
  (s.putCorner side { s.corner side with bellows := q }).sensorFault e .pressureSensor (2 + sideNumber side)

/-- The supply sensor is read when it is fitted (R122). -/
def State.readSupply (s : State) (v : Microvolt) : State :=
  if s.cfg.supplyFitted then
    let (q, e) := s.levelling.supply.read (supplyReading v)
    State.sensorFault { s with levelling := { s.levelling with supply := q } } e .supplySensor 0
  else s

/-- Stage 1 (R112). -/
def State.levelStage1 (s : State) (r : LevelReadings) : State :=
  ((((s.readHeight .left r.height.left).readHeight .right r.height.right).readBellows .left
    r.bellows.left).readBellows .right r.bellows.right).readSupply r.supply

/-! ## Stage 2: supply value and air band -/

/-- The lower of two figures, where there is one. -/
def lowerOf : Option Nat → Option Nat → Option Nat
  | none, b => b
  | some a, none => some a
  | some a, some b => some (min a b)

/-- The supply value: the lowest of the own reading and the heard peers' (R123). -/
def State.supplyNow (s : State) : Option Nat :=
  (s.peerNumbers.map s.peerSupply).foldl lowerOf s.ownSupply

/-- The air band after a levelling period (R123). -/
def bandAfter (before : Option Band) (value : Option Nat) : Band :=
  match value with
  | none => .scarce
  | some p =>
    match before with
    | none => if p < 700 then .scarce else if 900 ≤ p then .abundant else .limited
    | some .scarce => if 900 ≤ p then .abundant else if 730 ≤ p then .limited else .scarce
    | some .limited => if p < 700 then .scarce else if 900 ≤ p then .abundant else .limited
    | some .abundant => if p < 700 then .scarce else if p < 870 then .limited else .abundant

/-- Where LIMITED is entered from (R123). -/
def enteredFrom : Option Band → LimitedFrom
  | none => .startUp
  | some .abundant => .abundant
  | some .scarce => .scarce
  | some .limited => .startUp

/-- The supply value is formed and the band updated; an entry into LIMITED is recorded (R123). -/
def State.updateBand (s : State) : State :=
  let v := s.supplyNow
  let b := bandAfter s.levelling.band v
  { s with levelling := { s.levelling with
      supplyValue := v
      band := some b
      limitedFrom :=
        if b == .limited then
          (if s.levelling.band == some .limited then s.levelling.limitedFrom else some (enteredFrom s.levelling.band))
        else none
      limitedNew := s.levelling.limitedNew || (b == .limited && s.levelling.band != some .limited) } }

/-- A window start falls at this period (R124). -/
def State.windowDue (s : State) : Bool :=
  if s.levelling.started then 100 ≤ s.levelling.elapsed + 1 else s.ladder.mode != .start

/-- RAISE or BACKUP: the modes that fill in SCARCE (R125 to R127). -/
def reserveMode (m : Mode) : Bool := m == .raise || m == .backup

/-- The SCARCE cut (R127). -/
def State.cutWindow (s : State) : State :=
  { s with levelling := { s.levelling with
      limit :=
        if reserveMode s.ladder.mode then
          s.levelling.used + min (s.levelling.limit - s.levelling.used) (16 / s.levelling.n)
        else s.levelling.used } }

/-- Stage 2 (R112, R127); the band has just entered SCARCE when it was another, or none, before. -/
def State.levelStage2 (s : State) : State :=
  let t := s.updateBand
  if t.levelling.band == some .scarce && s.levelling.band != some .scarce && !s.windowDue then t.cutWindow else t

/-! ## Stage 3: the air window -/

/-- Hunting (R124). -/
def hunt (a : Nat) (before now : Option Nat) : Nat :=
  match before, now with
  | some b, some v => if v + 10 < b then max 24 (a - 12) else if b + 10 < v then min 120 (a + 12) else a
  | _, _ => a

/-- The allowance set at a window start (R124). AIR_WINDOW_START may come before there is a band; the allowance is then
the reserve of 16 (log entry 36). -/
def State.allowanceNow (s : State) : Nat :=
  match s.levelling.band with
  | some .abundant => 800
  | some .limited =>
    if s.levelling.limitedNew || !s.levelling.started then
      match s.levelling.limitedFrom with
      | some .abundant => 120
      | some .scarce => 24
      | some .startUp => 60
      | none => 60
    else hunt s.levelling.allowance s.levelling.windowSupply s.levelling.supplyValue
  | some .scarce => 16
  | none => 16

/-- n: 1 plus the peers whose filling flag reads set (R125). -/
def State.fillers (s : State) : Nat := 1 + (s.peerNumbers.filter s.peerFilling).length

/-- The share (R125). -/
def State.shareNow (s : State) : Nat :=
  if s.levelling.band == some .scarce && !reserveMode s.ladder.mode then 0 else s.allowanceNow / s.fillers

/-- An air window begins (R124, R125). -/
def State.startWindow (s : State) : State :=
  { s with levelling := { s.levelling with
      allowance := s.allowanceNow
      n := s.fillers
      share := s.shareNow
      limit := s.shareNow
      used := 0
      started := true
      elapsed := 0
      limitedNew := false
      windowSupply := s.levelling.supplyValue } }

/-- Stage 3 (R112). -/
def State.levelStage3 (s : State) : State :=
  if s.windowDue then s.startWindow
  else if s.levelling.started then { s with levelling := { s.levelling with elapsed := s.levelling.elapsed + 1 } }
  else s

/-! ## Stage 4: targets, errors and locks -/

/-- The kerb corner is `side`. -/
def State.isKerb (s : State) (side : Side) : Bool := s.cfg.kerb == side

/-- A corner's target (R113). -/
def State.cornerTarget (s : State) (side : Side) : Int :=
  if s.isKerb side && (s.ladder.mode == .kneel || s.ladder.mode == .knelt) then -(s.cfg.kneelDepth : Int) else 0

/-- A target that differs from the previous one sets both counters to 0 and unlocks the corner (R113). -/
def Corner.retarget (c : Corner) (target : Int) : Corner :=
  if c.target == target then c else { c with target, inBand := 0, outBand := 0, locked := false }

/-- One period counted against the deadband (R114). -/
def Corner.countBand (c : Corner) (e : Int) (deadband : Nat) : Corner :=
  if e.natAbs ≤ deadband then
    { c with err := some e, inBand := growTo 20 1 c.inBand, outBand := 0, locked := growTo 20 1 c.inBand == 20 }
  else { c with err := some e, inBand := 0, outBand := growTo 200 1 c.outBand, locked := false }

/-- Stage 4 for one corner (R113, R114): an excluded corner counts nothing. -/
def State.lockTest (s : State) (side : Side) : State :=
  let c := (s.corner side).retarget (s.cornerTarget side)
  match c.h with
  | some h => if c.height.valid then s.putCorner side (c.countBand (c.target - h) s.cfg.deadband) else s.putCorner side c
  | none => s.putCorner side c

/-- Stage 4 (R112). -/
def State.levelStage4 (s : State) : State := (s.lockTest .left).lockTest .right

/-! ## Stages 5 and 6: valves -/

/-- A corner holds (R115). -/
def State.holds (s : State) (side : Side) : Bool :=
  s.ladder.mode == .start || s.ladder.mode == .park || (s.ladder.mode == .raise && s.breached) ||
    s.coilFailed (cornerCoils side).1 || s.coilFailed (cornerCoils side).2 || !(s.corner side).height.valid || s.sweeping

/-- A corner that is not held waits in DRIVE until its out-of-band counter has reached 200 (R115). -/
def State.waits (s : State) (side : Side) : Bool := s.ladder.mode == .drive && (s.corner side).outBand < 200

/-- The corner acts (R115). -/
def State.acts (s : State) (side : Side) : Bool := !s.holds side && !s.waits side

/-- The corner's error, 0 while there is none. -/
def Corner.error (c : Corner) : Int := c.err.getD 0

/-- An acting corner calls for fill when it is too low (R116). -/
def State.callsFill (s : State) (side : Side) : Bool :=
  s.acts side && decide ((s.cfg.deadband : Int) < (s.corner side).error)

/-- An acting corner exhausts when it is too high (R116). -/
def State.exhausts (s : State) (side : Side) : Bool :=
  s.acts side && decide ((s.corner side).error < -(s.cfg.deadband : Int))

/-- A slice is left for a corner that calls (R126). -/
def State.sliceLeft (s : State) : Bool := s.airAllowed && s.levelling.used < s.levelling.limit

/-- One corner's valve state is decided, with a slice when it calls and one is left (R116, R126). -/
def State.serveCorner (s : State) (side : Side) : State :=
  if s.callsFill side then
    if s.sliceLeft then
      State.putCorner { s with levelling := { s.levelling with used := s.levelling.used + 1 } } side
        { s.corner side with calls := true, starved := false, valve := .fill }
    else s.putCorner side { s.corner side with calls := true, starved := true, valve := .closed }
  else
    s.putCorner side { s.corner side with
      calls := false, starved := false, valve := if s.exhausts side then .exhaust else .closed }

/-- The corner served first: the greater error, the kerb corner on equal errors (R116). -/
def State.firstServed (s : State) : Side :=
  if (s.corner (otherSide s.cfg.kerb)).error > (s.corner s.cfg.kerb).error then otherSide s.cfg.kerb else s.cfg.kerb

/-- Stage 5 (R112); stage 6 drives the coils from the valve states, which the outputs read (`State.coilOn`). -/
def State.levelStage5 (s : State) : State :=
  (s.serveCorner s.firstServed).serveCorner (otherSide s.firstServed)

/-! ## Stage 7: load, filling flag, raise timer -/

/-- Both corners' valves are CLOSED. -/
def State.valvesClosed (s : State) : Bool :=
  s.levelling.corners.left.valve == .closed && s.levelling.corners.right.valve == .closed

/-- The load from both bellows pressures (R119). -/
def loadOf (unsprung kload pL pR : Nat) : Nat := clampNat unsprung 2000 (unsprung + (pL + pR) * kload / 256)

/-- The axle load: measured while both valves are CLOSED at this period and were at the previous one, both bellows
sensors are VALID and no sweep is RUNNING; held otherwise (R119, log entry 20). -/
def State.measureLoad (s : State) : State :=
  if s.levelling.closedLast && s.valvesClosed && s.levelling.corners.left.bellows.valid && s.levelling.corners.right.bellows.valid &&
      !s.sweeping then
    match s.levelling.corners.left.bellows.value, s.levelling.corners.right.bellows.value with
    | some pL, some pR => { s with levelling := { s.levelling with load := loadOf s.cfg.unsprung s.cfg.kload pL pR } }
    | _, _ => s
  else s

/-- A corner's valve state is noted for the SNAPSHOT (R129, R175), and whether both valves are CLOSED for the next
period's load (R119). -/
def State.noteValve (s : State) (side : Side) : State :=
  let t := s.putCorner side { s.corner side with valveSeen := (s.corner side).valve }
  { t with levelling := { t.levelling with closedLast := s.valvesClosed } }

/-- Both corners' valve states are noted at the end of a period. -/
def State.noteValves (s : State) : State := (s.noteValve .left).noteValve .right

/-- The filling flag (R128). -/
def State.setFilling (s : State) : State :=
  { s with levelling := { s.levelling with
      filling := (s.levelling.corners.left.calls || s.levelling.corners.right.calls) && s.airAllowed } }

/-- The raise timer and RAISE_SLOW (R121). -/
def State.runRaiseTimer (s : State) : State :=
  if s.ladder.mode == .raise then
    let t := { s with levelling := { s.levelling with raiseTimer := growTo 20000 10 s.levelling.raiseTimer } }
    if s.levelling.raiseTimer < 20000 && t.levelling.raiseTimer == 20000 then t.raise .raiseSlow 0 else t
  else State.finish { s with levelling := { s.levelling with raiseTimer := 0 } } .raiseSlow 0

/-- The trims as this period used them, for the SNAPSHOT (R175). -/
def State.noteTrims (s : State) : State :=
  { s with levelling := { s.levelling with corners :=
      ⟨{ s.levelling.corners.left with trimSeen := s.levelling.corners.left.trim },
        { s.levelling.corners.right with trimSeen := s.levelling.corners.right.trim }⟩ } }

/-- LEVELLING_PERIOD (R112): nothing before levelling starts to act (R110). -/
def State.levellingPeriod (s : State) (r : LevelReadings) : State :=
  if s.loaded then
    (s.levelStage1 r).levelStage2.levelStage3.levelStage4.levelStage5.measureLoad.noteValves.setFilling.runRaiseTimer.noteTrims
  else s

/-! ## Meanings -/

/-- LEVELLING_PERIOD, R112. -/
def execLevellingPeriod (readings : LevelReadings) (s : State) : Host.Outcome State Fault Refusal :=
  .next (s.levellingPeriod readings)

/-- AIR_WINDOW_START, R124: the window that is due begins. -/
def execAirWindowStart (s : State) : Host.Outcome State Fault Refusal :=
  .next (if s.loaded && s.windowDue then s.startWindow else s)

/-- The twentieth period in band is due (R114). -/
def State.lockDue (s : State) (side : Side) : Bool :=
  s.loaded && (s.corner side).height.valid && (s.corner side).inBand == 19 &&
    (s.corner side).err.any (fun e => decide (e.natAbs ≤ s.cfg.deadband))

/-- CORNER_LOCKED, R114: the count that reaches 20. -/
def execCornerLocked (side : Side) (s : State) : Host.Outcome State Fault Refusal :=
  .next (if s.lockDue side then
    s.putCorner side ((s.corner side).countBand (s.corner side).error s.cfg.deadband) else s)

/-- The 200th period out of band is due (R115). -/
def State.outOfBandDue (s : State) (side : Side) : Bool :=
  s.loaded && (s.corner side).height.valid && (s.corner side).outBand == 199 &&
    (s.corner side).err.any (fun e => decide (s.cfg.deadband < e.natAbs))

/-- OUT_OF_BAND_LIMIT, R115: the count that reaches 200, and the corner acts on it. -/
def execOutOfBandLimit (side : Side) (s : State) : Host.Outcome State Fault Refusal :=
  .next (if s.outOfBandDue side then
    ((s.putCorner side ((s.corner side).countBand (s.corner side).error s.cfg.deadband)).serveCorner side).noteValve side
    else s)

/-- HEIGHT_SENSOR_RECOVERY, R111: the reading that brings the recovery count to 10. -/
def execHeightSensorRecovery (side : Side) (level : Microvolt) (s : State) : Host.Outcome State Fault Refusal :=
  .next (if s.loaded && (s.corner side).height.recovers (heightReading level) then s.readHeight side level else s)

/-- BELLOWS_SENSOR_RECOVERY, R118: the reading that brings the recovery count to 10. -/
def execBellowsSensorRecovery (side : Side) (level : Microvolt) (s : State) : Host.Outcome State Fault Refusal :=
  .next (if s.loaded && (s.corner side).bellows.recovers (bellowsReading level) then s.readBellows side level else s)

/-- SUPPLY_SENSOR_RECOVERY, R122: the reading that brings the recovery count to 10. -/
def execSupplySensorRecovery (level : Microvolt) (s : State) : Host.Outcome State Fault Refusal :=
  .next (if s.loaded && s.cfg.supplyFitted && s.levelling.supply.recovers (supplyReading level) then s.readSupply level
    else s)

/-- The raise timer's last 10 ms are due (R121). -/
def State.raiseSlowDue (s : State) : Bool :=
  s.loaded && s.ladder.mode == .raise && 20000 ≤ s.levelling.raiseTimer + 10

/-- RAISE_SLOW, R121: the timer reaches 20,000 ms. -/
def execRaiseSlow (s : State) : Host.Outcome State Fault Refusal :=
  .next (if s.raiseSlowDue then s.runRaiseTimer else s)

end Sys2Proof.Machine
end

