-- ==== Sys2Proof/Machine/LinkControl.lean ====
section
/-! DEFINITION. The link controller's own steps (R149 to R162): the start and the end of an attempt to send, the STATE
timer and its promotion, frames that are damaged, and the fault list's seconds (R172). -/

namespace Sys2Proof.Machine

/-! ## The start of an attempt -/

/-- An attempt may start: an entry waits and none is in flight (R155). A listen-only station's queue holds at most the
entry in flight (R160). -/
def Link.maySend (l : Link) : Bool := !l.queue.isEmpty && !l.sending && !l.listenOnly

/-- Entry `e` goes in flight from its start bit, its frame on the wires as R151 forms it. -/
def Link.startSending (l : Link) (own : Fin 8) (e : Entry) : Link :=
  { l with
    queue := markInFlight e l.queue
    wire := frameBits (e.ident own) e.dest e.payload
    recessive := 0 }

/-- The link has become idle (R149, R155): the entry with the lowest identifier, the longest queued among equals, goes
in flight. With nothing to send the link stands idle. What the count of recessive bits holds is log entry 22. -/
def Link.idle (l : Link) (own : Fin 8) : Link :=
  if l.sending then l
  else
    match pickEntry own none l.queue with
    | none => { l with recessive := 8 }
    | some e => if l.listenOnly then { l with recessive := 8 } else l.startSending own e

/-- LINK_IDLE, R155. -/
def execLinkIdle (s : State) : Host.Outcome State Fault Refusal := .next { s with link := s.link.idle s.own }

/-! ## The end of an attempt -/

/-- The entry in flight is a SERVICE_REPLY. -/
def State.replyInFlight (s : State) : Bool := s.link.sendingKind == some .serviceReply

/-- The service block is told of a reply that has left the queue (R157, R174). -/
def State.tellReply (s : State) (left : Bool) : State := if left then s.replyLeft else s

/-- The attempt is lost in arbitration (R150): no counter is touched. A reply leaves only on a listen-only station
(R160). -/
def State.arbitrationLost (s : State) : State :=
  State.tellReply { s with link := s.link.attemptLost } (s.link.listenOnly && s.replyInFlight)

/-- ARBITRATION_LOST, R150. -/
def execArbitrationLost (s : State) : Host.Outcome State Fault Refusal :=
  .next (if s.link.sending then s.arbitrationLost else s)

/-- A bit error (R154): the entry is dropped and the send error counter grows. -/
def State.sendBitError (s : State) : State :=
  State.tellReply { s with link := { s.link.attemptEnds with sendError := bump s.link.sendError } } s.replyInFlight

/-- SEND_BIT_ERROR, R154. -/
def execSendBitError (s : State) : Host.Outcome State Fault Refusal :=
  .next (if s.link.sending then s.sendBitError else s)

/-- An acknowledged frame: the ack-miss counter is 0 and LINK_ALONE inactive (R153). -/
def State.ackHeard (s : State) : State := State.finish { s with link := { s.link with ackMiss := 0 } } .linkAlone 0

/-- A frame sent without acknowledgement (R153); LINK_ALONE is raised when the ack-miss counter reaches 16. -/
def State.ackMissed (s : State) : State :=
  let t := { s with link := { s.link with
    unacked := bump s.link.unacked
    ackMiss := growTo 16 1 s.link.ackMiss } }
  if s.link.ackMiss == 15 then t.raise .linkAlone 0 else t

/-- An own frame has passed its ack slot (R153): its entry leaves the queue. -/
def State.frameSent (s : State) (acked : Bool) : State :=
  let t := { s with link := { s.link.attemptEnds with sent := bump s.link.sent } }
  (if acked then t.ackHeard else t.ackMissed).tellReply s.replyInFlight

/-- FRAME_SENT, R153. -/
def execFrameSent (acked : Bool) (s : State) : Host.Outcome State Fault Refusal :=
  .next (if s.link.sending then s.frameSent acked else s)

/-- The frame in flight is the one whose missing acknowledgement brings the counter to 16. -/
def State.aloneDue (s : State) : Bool := s.link.sending && s.link.ackMiss == 15

/-- LINK_ALONE, R153: the sixteenth frame in a row past its ack slot without acknowledgement. -/
def execLinkAlone (s : State) : Host.Outcome State Fault Refusal :=
  .next (if s.aloneDue then s.frameSent false else s)

/-! ## STATE -/

/-- The STATE timer has expired (R161); it stops on a listen-only station (R160). -/
def State.stateTimerDue (s : State) : Bool := s.loaded && !s.link.listenOnly && s.link.stateTimer == 0

/-- The timer starts again and a STATE is formed and offered (R161). -/
def State.stateTimerExpires (s : State) : State :=
  State.offerState { s with link := { s.link with stateTimer := 20 } }

/-- STATE_TIMER, R161. -/
def execStateTimer (s : State) : Host.Outcome State Fault Refusal :=
  .next (if s.stateTimerDue then s.stateTimerExpires else s)

/-- A STATE entry has been in the queue for more than 50 ms in class 2 (R158). -/
def Entry.promotionDue (e : Entry) : Bool := e.kind == .state && e.cls == 2 && 50 < e.time

/-- An entry after the promotion: class 1. -/
def Entry.promote (e : Entry) : Entry := if e.promotionDue then { e with cls := 1 } else e

/-- STATE_PROMOTION, R158. An entry promoted while in flight goes on with the identifier it has on the wires. -/
def execStatePromotion (s : State) : Host.Outcome State Fault Refusal :=
  .next { s with link := { s.link with queue := s.link.queue.map Entry.promote } }

/-! ## Damaged frames -/

/-- FRAME_CHECK_ERROR, R152: no acknowledgement. -/
def execFrameCheckError (s : State) : Host.Outcome State Fault Refusal :=
  .next { s with link := { s.link with
    checkError := bump s.link.checkError
    ackDriven := false
    recessive := 0 } }

/-- A stuff error or a length of 15 (R152): no acknowledgement, and the receiver waits for idle. -/
def Link.formatError (l : Link) : Link :=
  { l with
    format := bump l.format
    ackDriven := false
    recessive := 0 }

/-- FRAME_FORMAT_ERROR, R152. -/
def execFrameFormatError (s : State) : Host.Outcome State Fault Refusal := .next { s with link := s.link.formatError }

/-! ## Seconds -/

/-- 1000 ms have passed since the seconds counter last grew. -/
def State.secondDue (s : State) : Bool := 1000 ≤ s.faults.millis

/-- SECONDS_TICK, R172. -/
def execSecondsTick (s : State) : Host.Outcome State Fault Refusal :=
  .next (if s.secondDue then
    { s with faults := { s.faults with
        millis := s.faults.millis - 1000
        seconds := bump s.faults.seconds } }
    else s)

end Sys2Proof.Machine
end

