-- ==== Sys2Proof/Machine/JointMonitor.lean ====
section
/-! DEFINITION. The joint monitor (R62 to R73): its period, the expected angle, the jackknife comparison and its alerts.
-/

namespace Sys2Proof.Machine

/-- The joint number, the qualifier of the station's joint alerts and faults. -/
def State.jointNumber (s : State) : Nat :=
  match s.cfg.joint with
  | some j => j.val
  | none => 0

/-- The path tracker reports a clearing of the queue (R68). The last mismatch becomes absent with JACKKNIFE clear too, by
R68's first sentence; the later one, by which such a clearing changes only the counters and φe, is read as naming what
goes on, not as keeping the last mismatch (DEDUCED, log entry 33). -/
def Joint.pathCleared (j : Joint) : Joint :=
  { j with jackknife := false, mismatch := 0, clear := 0, phiE := none, lastMismatch := none, jackTimer := 0 }

/-- The joint monitor takes the report of a clearing. -/
def State.jointCleared (s : State) : State :=
  if s.hasJoint then { s with joint := s.joint.pathCleared } else s

/-! ## Comparisons -/

/-- JACKKNIFE is set and its first alert is queued (R66, R70). -/
def State.setJackknife (s : State) : State :=
  State.offerAlert { s with joint := { s.joint with jackknife := true, mismatch := 0, clear := 0, jackTimer := 20 } }
    .jackknife s.jointNumber

/-- JACKKNIFE clears and its alert stops (R67). -/
def State.clearJackknife (s : State) : State :=
  { s with joint := { s.joint with jackknife := false, mismatch := 0, clear := 0, jackTimer := 0 } }

/-- One comparison with mismatch `m` while JACKKNIFE is clear (R66). -/
def State.countMismatch (s : State) (m : Nat) : State :=
  if s.cfg.jackThreshold < m then
    if s.joint.mismatch + 1 < 5 then { s with joint := { s.joint with mismatch := s.joint.mismatch + 1 } }
    else s.setJackknife
  else { s with joint := { s.joint with mismatch := 0 } }

/-- One comparison with mismatch `m` while JACKKNIFE is set (R67). -/
def State.countClear (s : State) (m : Nat) : State :=
  if m < s.cfg.jackThreshold / 2 then
    if s.joint.clear + 1 < 20 then { s with joint := { s.joint with clear := s.joint.clear + 1 } }
    else s.clearJackknife
  else { s with joint := { s.joint with clear := 0 } }

/-- One comparison (R66, R67): the mismatch is recorded and counted. -/
def State.compareJoint (s : State) (m : Nat) : State :=
  let t := { s with joint := { s.joint with lastMismatch := some m } }
  if s.joint.jackknife then t.countClear m else t.countMismatch m

/-- φe = κ × joint_lever_mm × 573 / 1,000,000, half away from zero (R65). -/
def expectedAngle (kappa : Int) (leverMm : Nat) : Int := roundHalfAway (kappa * leverMm * 573) 1000000

/-- At an arrival after which the queue is ready: φe from the joint's due entry, then the comparison when the sensor is
VALID and φm present (R65, R66). -/
def State.jointArrival (s : State) : State :=
  if s.hasJoint && s.pathReady then
    match dueEntry s.tracker.queue s.cfg.jointOffset with
    | none => s
    | some e =>
      let phi := expectedAngle e.kappa s.cfg.jointLever
      let t := { s with joint := { s.joint with phiE := some phi } }
      match s.joint.angle.value with
      | some m => if s.joint.angle.valid then t.compareJoint (m - phi).natAbs else t
      | none => t
  else s

/-! ## The joint period -/

/-- The limit test on a valid reading (R69). -/
def State.testLimit (s : State) (phi : Int) : State :=
  if s.joint.limit then
    if phi.natAbs < 4800 then { s with joint := { s.joint with limit := false, limitTimer := 0 } } else s
  else if 5200 ≤ phi.natAbs then
    State.offerAlert { s with joint := { s.joint with limit := true, limitTimer := 20 } } .jointLimit s.jointNumber
  else s

/-- An out-of-range reading: both flags clear, both counters 0, the last mismatch absent (R64). -/
def Joint.sensorLost (j : Joint) : Joint :=
  { j with lastMismatch := none, jackknife := false, limit := false, mismatch := 0, clear := 0, jackTimer := 0, limitTimer := 0 }

/-- The JNT input is read and the LIMIT test of this period made when the sensor is VALID (R63, R64, R69). -/
def State.takeJointReading (s : State) (v : Microvolt) : State :=
  let (angle, e) := s.joint.angle.read (jointReading v)
  let t := State.sensorFault { s with joint := { s.joint with angle } } e .jointSensor s.jointNumber
  match e with
  | .raised => { t with joint := t.joint.sensorLost }
  | .ended => t.testLimit (angleOf v)
  | .quiet => if angle.valid then t.testLimit (angleOf v) else t

/-- JOINT_PERIOD (R63). -/
def State.jointPeriod (s : State) (v : Microvolt) : State := if s.hasJoint then s.takeJointReading v else s

/-! ## Meanings -/

/-- JOINT_PERIOD, R63: a station with no joint monitor reads nothing (R62). -/
def execJointPeriod (jnt : Microvolt) (s : State) : Host.Outcome State Fault Refusal := .next (s.jointPeriod jnt)

/-- JOINT_SENSOR_RECOVERY, R64: the reading that brings the recovery count to 10; another reading is not this step. -/
def execJointSensorRecovery (jnt : Microvolt) (s : State) : Host.Outcome State Fault Refusal :=
  .next (if s.hasJoint && s.joint.angle.recovers (jointReading jnt) then s.takeJointReading jnt else s)

/-- The counted comparison that brings the mismatch counter to 5 is due: the last mismatch is above the threshold and
the counter at 4 (R66). -/
def State.jackknifeDue (s : State) : Bool :=
  s.hasJoint && s.joint.angle.valid && !s.joint.jackknife && 5 ≤ s.joint.mismatch + 1 &&
    (match s.joint.lastMismatch with
      | some m => decide (s.cfg.jackThreshold < m)
      | none => false)

/-- JACKKNIFE_SET, R66: the count that reaches 5. -/
def execJackknifeSet (s : State) : Host.Outcome State Fault Refusal :=
  .next (if s.jackknifeDue then s.setJackknife else s)

/-- The counted comparison that brings the clear counter to 20 is due (R67). -/
def State.jackknifeClearDue (s : State) : Bool :=
  s.hasJoint && s.joint.angle.valid && s.joint.jackknife && 20 ≤ s.joint.clear + 1 &&
    (match s.joint.lastMismatch with
      | some m => decide (m < s.cfg.jackThreshold / 2)
      | none => false)

/-- JACKKNIFE_CLEAR, R67: the count that reaches 20. -/
def execJackknifeClear (s : State) : Host.Outcome State Fault Refusal :=
  .next (if s.jackknifeClearDue then s.clearJackknife else s)

/-- The JACKKNIFE alert timer has expired while the flag is set. -/
def State.jackknifeRepeatDue (s : State) : Bool := s.joint.jackknife && s.joint.jackTimer == 0

/-- JACKKNIFE_ALERT_REPEAT, R70. -/
def execJackknifeAlertRepeat (s : State) : Host.Outcome State Fault Refusal :=
  .next (if s.jackknifeRepeatDue then
    State.offerAlert { s with joint := { s.joint with jackTimer := 20 } } .jackknife s.jointNumber else s)

/-- The JOINT_LIMIT alert timer has expired while LIMIT is set. -/
def State.limitRepeatDue (s : State) : Bool := s.joint.limit && s.joint.limitTimer == 0

/-- JOINT_LIMIT_ALERT_REPEAT, R70. -/
def execJointLimitAlertRepeat (s : State) : Host.Outcome State Fault Refusal :=
  .next (if s.limitRepeatDue then
    State.offerAlert { s with joint := { s.joint with limitTimer := 20 } } .jointLimit s.jointNumber else s)

end Sys2Proof.Machine
end

