-- ==== Sys2Proof/Machine/SteeringBlock.lean ====
section
/-! DEFINITION. Steering (R51 to R61): the steering period, the path steer angle, PINNED and its alert. -/

namespace Sys2Proof.Machine

/-- The STEER_PINNED qualifier of a cause (R56). -/
def PinCause.qualifier : PinCause → Nat
  | .none => 0
  | .tracking => 0
  | .sensor => 1
  | .coil => 2

/-- Entry to PINNED: the cause is recorded, δp and the tracking counter become 0, and the first alert is queued (R56). The
target stays as it is until the next stage 3; for an entry at stage 5 that is the model's reading (DEDUCED, log entry 40).
-/
def State.enterPinned (s : State) (cause : PinCause) : State :=
  State.offerAlert
    { s with steering := { s.steering with state := .pinned, cause, dp := 0, tracking := 0, alertTimer := 20 } }
    .steerPinned cause.qualifier

/-- δp = κ × lever_mm × 573 / 1,000,000, half away from zero, clamped to ±max lock (R57). -/
def pathAngle (kappa : Int) (leverMm maxLock : Nat) : Int :=
  clampInt (-(maxLock : Int)) maxLock (roundHalfAway (kappa * leverMm * 573) 1000000)

/-- δp from the axle's due entry (R57); nothing is due while the queue is not ready (R47). -/
def State.computeDp (s : State) : State :=
  if s.pathReady then
    match dueEntry s.tracker.queue s.cfg.axleOffset with
    | some e => { s with steering := { s.steering with dp := pathAngle e.kappa s.cfg.lever s.cfg.maxLock } }
    | none => s
  else s

/-- After a TRACE arrival that the queue takes while the state is FOLLOW (R57). -/
def State.steerArrival (s : State) : State :=
  if s.hasSteering && s.steering.state == .follow then s.computeDp else s

/-! ## The stages of the steering period (R52) -/

/-- Stage 1: the lock valve coil, then the actuator angle (R54, R55, log entry 16). -/
def State.steerStage1 (s : State) (v : Microvolt) : State :=
  let a := if s.coilFailed 9 && s.steering.state != .pinned then s.enterPinned .coil else s
  let b := { a with steering := { a.steering with measured := steerReading v } }
  match steerReading v with
  | some _ => b.finish .steerTrack 1
  | none =>
    let c := b.raise .steerTrack 1
    if c.steering.state != .pinned then c.enterPinned .sensor else c

/-- The conditions of HOME to FOLLOW (R53). -/
def State.mayFollow (s : State) : Bool :=
  s.pathReady && !s.demand.rev && s.ladder.mode != .start && s.ladder.mode != .backup

/-- The conditions of FOLLOW to HOME (R53). -/
def State.mustHome (s : State) : Bool :=
  s.demand.rev || s.tracker.broken || !s.pathReady || s.ladder.mode == .backup

/-- Stage 2: the change between HOME and FOLLOW (R53). -/
def State.steerStage2 (s : State) : State :=
  match s.steering.state with
  | .home =>
    if s.mayFollow then State.computeDp { s with steering := { s.steering with state := .follow } } else s
  | .follow =>
    if s.mustHome then { s with steering := { s.steering with state := .home, dp := 0 } } else s
  | .pinned => s

/-- The fade factor (R58). -/
def fadeFactor (v fadeStart fadeEnd : Nat) : Nat :=
  (clampInt 0 1000 ((((fadeEnd : Int) - v) * 1000).tdiv ((fadeEnd : Int) - fadeStart))).toNat

/-- Stage 3: the fade and the target (R58). -/
def State.steerStage3 (s : State) : State :=
  let a := fadeFactor s.ownSpeed s.cfg.fadeStart s.cfg.fadeEnd
  { s with steering := { s.steering with
      fade := a
      target := if s.steering.state == .follow then (s.steering.dp * a).tdiv 1000 else 0 } }

/-- The command moved toward the target under the rate limit (R59). -/
def rampTo (command target : Int) (rate : Nat) : Int :=
  if (target - command).natAbs ≤ rate then target
  else if command < target then command + rate
  else command - rate

/-- Stage 4. -/
def State.steerStage4 (s : State) : State :=
  { s with steering := { s.steering with command := rampTo s.steering.command s.steering.target s.cfg.rateLimit } }

/-- The command and the measured angle differ by more than 300 cd (R60). -/
def Steering.offTrack (t : Steering) : Bool :=
  match t.measured with
  | some m => decide (300 < (t.command - m).natAbs)
  | none => false

/-- The tracking count, and the tracking fault at 20 (R60). -/
def State.countTracking (s : State) : State :=
  if s.steering.offTrack then
    if s.steering.tracking + 1 < 20 then
      { s with steering := { s.steering with tracking := s.steering.tracking + 1 } }
    else (s.raise .steerTrack 0).enterPinned .tracking
  else { s with steering := { s.steering with tracking := 0 } }

/-- Stage 5: the tracking check, skipped in PINNED and while a sweep is RUNNING, which holds the counter at 0 (R55,
R60). -/
def State.steerStage5 (s : State) : State :=
  if s.steering.state == .pinned then s
  else if s.sweeping then { s with steering := { s.steering with tracking := 0 } }
  else s.countTracking

/-- The outputs until the next steering period (R61). -/
def State.steerOutputs (s : State) : State :=
  let live := s.steering.state != .pinned && !s.sweeping
  { s with steering := { s.steering with
      dpSeen := s.steering.dp
      trackingSeen := s.steering.tracking
      lockOn := live
      actP := live && (match s.steering.measured with
        | some m => decide (m + 10 < s.steering.command)
        | none => false)
      actN := live && (match s.steering.measured with
        | some m => decide (s.steering.command < m - 10)
        | none => false) } }

/-- STEERING_PERIOD (R52). -/
def State.steeringPeriod (s : State) (v : Microvolt) : State :=
  if s.hasSteering then (s.steerStage1 v).steerStage2.steerStage3.steerStage4.steerStage5.steerOutputs else s

/-! ## Meanings -/

/-- STEERING_PERIOD, R52: a station with no steering block has nothing to do (R51). -/
def execSteeringPeriod (sta : Microvolt) (s : State) : Host.Outcome State Fault Refusal :=
  .next (s.steeringPeriod sta)

/-- The tracking check that brings the counter to 20 is due (R60). -/
def State.trackingDue (s : State) : Bool :=
  s.hasSteering && s.steering.state != .pinned && !s.sweeping && s.steering.offTrack && 20 ≤ s.steering.tracking + 1

/-- TRACKING_FAULT, R60: the count that reaches 20, with the outputs that follow. -/
def execTrackingFault (s : State) : Host.Outcome State Fault Refusal :=
  .next (if s.trackingDue then s.countTracking.steerOutputs else s)

/-- The STEER_PINNED alert timer has expired in PINNED. -/
def State.pinnedRepeatDue (s : State) : Bool := s.steering.state == .pinned && s.steering.alertTimer == 0

/-- STEER_PINNED_REPEAT, R56. -/
def execSteerPinnedRepeat (s : State) : Host.Outcome State Fault Refusal :=
  .next (if s.pinnedRepeatDue then
    State.offerAlert { s with steering := { s.steering with alertTimer := 20 } } .steerPinned s.steering.cause.qualifier
    else s)

end Sys2Proof.Machine
end

