-- ==== Sys2Proof/Machine/PathTracker.lean ====
section
/-! DEFINITION. The trace generator of the CAB station and the path queue (R36 to R50). -/

namespace Sys2Proof.Machine

/-! ## Trace generation -/

/-- κ = δf × 17453 / (10 × WB_mm), half away from zero, clamped to ±1000 (R37). -/
def curvature (angle : Int) (wheelbase : Nat) : Int :=
  clampInt (-1000) 1000 (roundHalfAway (angle * 17453) (10 * wheelbase))

/-- A completed path step: the index counts on, and the sample is queued when the angle reads valid (R37, R39). -/
def State.completeStep (s : State) (sta : Microvolt) : State :=
  let t := { s with tracker := { s.tracker with traceIndex := s.tracker.traceIndex + 1 } }
  match steerReading sta with
  | some angle =>
    (t.finish .steerTrack 2).offer
      (newEntry .trace 8 (bytesOf 2 t.tracker.traceIndex.toNat ++ signedBytesOf 2 (curvature angle s.cfg.wheelbase)))
  | none => t.raise .steerTrack 2

/-- Twice the configured pulses per step (R36). -/
def State.pulsesNeeded (s : State) : Nat := 2 * s.cfg.pulsesPerStep

/-- A pulse reaches the accumulator: discarded under the reverse flag (R38), else counted, with the remainder carried
into the next step (R36). -/
def State.tracePulse (s : State) (sta : Microvolt) : State :=
  if !s.isCab then s
  else if s.demand.rev then { s with tracker := { s.tracker with accumulator := 0 } }
  else if s.tracker.accumulator + 1 < s.pulsesNeeded then
    { s with tracker := { s.tracker with accumulator := s.tracker.accumulator + 1 } }
  else
    State.completeStep
      { s with tracker := { s.tracker with accumulator := s.tracker.accumulator + 1 - s.pulsesNeeded } } sta

/-- The pulse that completes a path step is due. -/
def State.stepDue (s : State) : Bool :=
  s.isCab && !s.demand.rev && s.pulsesNeeded ≤ s.tracker.accumulator + 1

/-- PATH_STEP, R37: the pulse that completes the step. -/
def execPathStep (sta : Microvolt) (s : State) : Host.Outcome State Fault Refusal :=
  .next (if s.stepDue then s.tracePulse sta else s)

/-! ## The path queue -/

/-- One entry appended; a full queue loses its oldest entry first (R44). -/
def pushSample (queue : List Sample) (e : Sample) : List Sample :=
  (if 256 ≤ queue.length then queue.drop 1 else queue) ++ [e]

/-- `k` filled entries appended after index `newest`, each with curvature `kappa` (R44). -/
def fillGap (queue : List Sample) (newest : Half) (kappa : Int) : Nat → List Sample
  | 0 => queue
  | k + 1 => pushSample (fillGap queue newest kappa k) ⟨newest + BitVec.ofNat 16 (k + 1), kappa, true⟩

/-- The entries older than the greater offset are removed from the head (R47). -/
def prune (offset : Nat) (queue : List Sample) : List Sample :=
  match newestIndex queue with
  | none => queue
  | some newest => queue.dropWhile fun e => decide (offset < (newest - e.index).toNat)

/-- After an arrival that adds to the queue: pruned, the rejection run 0, TRACE_BROKEN inactive when the queue is
ready, δp and φe computed (R47, R57, R65). -/
def State.pathGrows (s : State) (queue : List Sample) : State :=
  let t := { s with tracker := { s.tracker with queue := prune s.greaterOffset queue, rejectionRun := 0 } }
  let u :=
    if t.pathReady then
      (State.finish { t with tracker := { t.tracker with broken := false } } .traceBroken 0).finish .traceBroken 1
    else t
  u.steerArrival.jointArrival

/-- The path is broken: the arrival becomes the only entry, TRACE_BROKEN is raised and the joint monitor told (R45,
R46, log entry 19). The report makes φe absent (R68), at this arrival too (log entry 33). -/
def State.breakPath (s : State) (index : Half) (kappa : Int) (qualifier : Nat) : State :=
  (State.raise { s with tracker := { s.tracker with queue := [⟨index, kappa, false⟩], rejectionRun := 0, broken := true } }
    .traceBroken qualifier).jointCleared

/-- An arrival that is not newer than the tail (R46, log entry 19). -/
def State.olderArrival (s : State) (index : Half) (kappa : Int) : State :=
  if s.tracker.rejectionRun + 1 < 8 then
    { s with tracker := { s.tracker with older := bump s.tracker.older, rejectionRun := s.tracker.rejectionRun + 1 } }
  else s.breakPath index kappa 1

/-- The gap of an arrival from the newest index, read as a signed value (R43). -/
def gapOf (index newest : Half) : Int := (index - newest).toInt

/-- An arrival (R43). -/
def State.traceArrival (s : State) (index : Half) (kappa : Int) : State :=
  match s.tracker.queue.getLast? with
  | none => s.pathGrows [⟨index, kappa, false⟩]
  | some tail =>
    let g := gapOf index tail.index
    if g = 1 then s.pathGrows (pushSample s.tracker.queue ⟨index, kappa, false⟩)
    else if 8 < g then s.breakPath index kappa 0
    else if g ≤ 0 then s.olderArrival index kappa
    else
      State.pathGrows
        { s with tracker := { s.tracker with filled := bumpBy (g.toNat - 1) s.tracker.filled } }
        (pushSample (fillGap s.tracker.queue tail.index tail.kappa (g.toNat - 1)) ⟨index, kappa, false⟩)

/-- A TRACE is discarded in BACKUP and while the reverse flag reads set (R42). -/
def State.traceBarred (s : State) : Bool := s.ladder.mode == .backup || s.demand.rev

/-- A TRACE handed to the path tracker (R41, R42): κ is read as a signed 16-bit value and clamped. -/
def State.takeTrace (s : State) (payload : List Byte) : State :=
  if !s.hasPath then s
  else if payload.length != 4 then { s with tracker := { s.tracker with malformed := bump s.tracker.malformed } }
  else if s.traceBarred then { s with tracker := { s.tracker with discarded := bump s.tracker.discarded } }
  else s.traceArrival (BitVec.ofNat 16 (pairAt payload 0)) (clampInt (-1000) 1000 (asSigned 16 (pairAt payload 2)))

/-- The queue is emptied and the clearing reported to the joint monitor (R48, R49). -/
def State.clearPath (s : State) : State :=
  if s.hasPath then
    State.jointCleared { s with tracker := { s.tracker with queue := [], rejectionRun := 0 } }
  else s

/-- TRACKER_PERIOD, R49. -/
def State.trackerPeriod (s : State) : State :=
  if s.ladder.mode == .backup && !s.tracker.queue.isEmpty then s.clearPath else s

/-- TRACKER_PERIOD, R49. -/
def execTrackerPeriod (s : State) : Host.Outcome State Fault Refusal := .next s.trackerPeriod

/-- The ignored arrival that would bring the rejection run to 8 (R46). -/
def State.rejectionDue (s : State) (index : Half) : Bool :=
  s.hasPath && !s.traceBarred && 8 ≤ s.tracker.rejectionRun + 1 &&
    (match s.tracker.queue.getLast? with
      | some tail => decide (gapOf index tail.index ≤ 0)
      | none => false)

/-- REJECTION_RUN_BREAK, R46: the arrival is taken as a break; its κ is taken clamped, as R42 has it. -/
def execRejectionRunBreak (index : Half) (kappa : Int) (s : State) : Host.Outcome State Fault Refusal :=
  .next (if s.rejectionDue index then s.olderArrival index (clampInt (-1000) 1000 kappa) else s)

end Sys2Proof.Machine
end

