-- ==== Sys2Proof/Machine/PeerViewOps.lean ====
section
/-! DEFINITION. The peer view (R19 to R35): taking in STATE, DEMAND and ALERT frames, their freshness, the remote alert
set and a duplicate station number. -/

namespace Sys2Proof.Machine

/-! ## STATE -/

/-- The role a code names. -/
def roleOfCode : Nat → Option Role
  | 0 => some .cab
  | 1 => some .plain
  | 2 => some .steer
  | _ => none

/-- The mode a code names. -/
def modeOfCode : Nat → Option Mode
  | 0 => some .start
  | 1 => some .park
  | 2 => some .stop
  | 3 => some .kneel
  | 4 => some .knelt
  | 5 => some .raise
  | 6 => some .drive
  | 7 => some .backup
  | _ => none

/-- The supply field of a STATE: present when bit 5 of byte 7 is set. -/
def supplyField (p : List Byte) : Option Nat := if (byteAt p 7).testBit 5 then some (pairAt p 9) else none

/-- The length fits the supply present flag: 11 bytes with it, 9 without (R22). -/
def stateLengthGood (p : List Byte) : Bool :=
  (p.length == 9 && !(byteAt p 7).testBit 5) || (p.length == 11 && (byteAt p 7).testBit 5)

/-- The ranges of R22. -/
def stateRangesGood (p : List Byte) : Bool :=
  1 ≤ pairAt p 1 && pairAt p 1 ≤ 2000 && pairAt p 3 ≤ 1500 && (supplyField p).getD 0 ≤ 1270

/-- The record a STATE payload carries, none when it is malformed (R22). -/
def parseState (p : List Byte) : Option PeerRecord :=
  if stateLengthGood p && stateRangesGood p then
    match roleOfCode (byteAt p 0 / 16 % 4), modeOfCode (byteAt p 0 % 16) with
    | some role, some mode =>
      some {
        sect := byteAt p 0 / 64
        role
        mode
        load := pairAt p 1
        speed := pairAt p 3
        deficit := pairAt p 5
        filling := (byteAt p 7).testBit 0
        ready := (byteAt p 7).testBit 1
        entLocked := (byteAt p 7).testBit 2
        stopConfirmed := (byteAt p 7).testBit 3
        anyBreach := (byteAt p 7).testBit 4
        faultSummary := BitVec.ofNat 8 (byteAt p 8)
        supply := supplyField p }
    | _, _ => none
  else none

/-- The entry of station `n` replaced. -/
def State.putPeer (s : State) (n : Fin 8) (p : Peer) : State :=
  { s with peerView := { s.peerView with peers := s.peerView.peers.set n p } }

/-- A discarded STATE, DEMAND or ALERT (R21). -/
def State.countMalformed (s : State) : State :=
  { s with peerView := { s.peerView with malformed := bump s.peerView.malformed } }

/-- A STATE from peer `n` (R22): it replaces the entry, which becomes FRESH with age 0, and PEER_LOST is inactive (R23).
-/
def State.takeState (s : State) (n : Fin 8) (payload : List Byte) : State :=
  match parseState payload with
  | none => s.countMalformed
  | some r =>
    State.finish (s.putPeer n { (s.peer n) with freshness := .fresh, age := 0, record := some r }) .peerLost n.val

/-! ## DEMAND -/

/-- The values a DEMAND payload carries, none when it is malformed (R27). -/
def parseDemand (p : List Byte) : Option DemandValues :=
  if p.length == 5 && pairAt p 0 ≤ 800 then
    some {
      d := pairAt p 0
      dValid := (byteAt p 2).testBit 0
      stop := (byteAt p 2).testBit 1
      kneel := (byteAt p 2).testBit 2
      park := (byteAt p 2).testBit 3
      rev := (byteAt p 2).testBit 4
      drive := (byteAt p 2).testBit 5
      ovr := (byteAt p 2).testBit 6
      release := BitVec.ofNat 16 (pairAt p 3) }
  else none

/-- The DEMAND record takes values: FRESH with age 0, its faults inactive (R27, R28), the cause "no DEMAND" over (R16).
-/
def State.freshenDemand (s : State) (v : DemandValues) : State :=
  (State.finish
    { s with
      peerView := { s.peerView with demand := { s.peerView.demand with freshness := .fresh, age := 0, values := v } }
      ladder := { s.ladder with noDemandCause := false } }
    .demandLost 0).finish .demandLost 1

/-- While the reverse flag is set the path queue is emptied (R48) and, on the CAB station, the pulse accumulator held at
0 (R38). -/
def State.applyReverse (s : State) : State :=
  if s.demand.rev then
    State.clearPath (if s.isCab then { s with tracker := { s.tracker with accumulator := 0 } } else s)
  else s

/-- A DEMAND is accepted into the record: from the link (R27), or from the own computation on the CAB station (R30).
A running sweep watches D (R169). -/
def State.acceptDemand (s : State) (v : DemandValues) : State := (s.freshenDemand v).applyReverse.checkSweep

/-- A DEMAND from the cab station (R27). -/
def State.takeDemand (s : State) (payload : List Byte) : State :=
  match parseDemand payload with
  | none => s.countMalformed
  | some v => s.acceptDemand v

/-! ## ALERT -/

/-- The code and qualifier an ALERT payload carries, none when it is malformed (R31). -/
def parseAlert (p : List Byte) : Option (AlertCode × Byte) :=
  match p with
  | [c, q] =>
    match alertOfNumber c.toNat with
    | some .jackknife => if q.toNat ≤ 2 then some (.jackknife, q) else none
    | some .jointLimit => if q.toNat ≤ 2 then some (.jointLimit, q) else none
    | some .steerPinned => some (.steerPinned, q)
    | some .brakeDegraded => some (.brakeDegraded, q)
    | some .entranceBreach => if q.toNat ≤ 15 then some (.entranceBreach, q) else none
    | none => none
  | _ => none

/-- The entry has this code, qualifier and sender. -/
def AlertEntry.is (a : AlertEntry) (code : AlertCode) (q : Byte) (sender : Fin 8) : Bool :=
  a.code == code && a.qualifier == q && a.sender == sender

/-- `a` is replaced before `b`: the greater age, then the lower code number, qualifier and sender (R31). -/
def AlertEntry.before (a b : AlertEntry) : Bool :=
  if a.age != b.age then b.age < a.age
  else if a.code != b.code then alertNumber a.code < alertNumber b.code
  else if a.qualifier != b.qualifier then a.qualifier.toNat < b.qualifier.toNat
  else a.sender.val < b.sender.val

/-- The entry closest to expiry. -/
def closestToExpiry : List AlertEntry → Option AlertEntry
  | [] => none
  | a :: rest =>
    match closestToExpiry rest with
    | none => some a
    | some b => if b.before a then some b else some a

/-- The set after a good ALERT, and whether an entry was displaced (R31). -/
def refreshAlerts (set : List AlertEntry) (code : AlertCode) (q : Byte) (sender : Fin 8) : List AlertEntry × Bool :=
  if set.any (·.is code q sender) then
    (set.map (fun a => if a.is code q sender then { a with age := 0 } else a), false)
  else if set.length < 16 then (set ++ [⟨code, q, sender, 0⟩], false)
  else
    match closestToExpiry set with
    | none => (set ++ [⟨code, q, sender, 0⟩], false)
    | some victim => (set.erase victim ++ [⟨code, q, sender, 0⟩], true)

/-- An ALERT (R31). -/
def State.takeAlert (s : State) (sender : Fin 8) (payload : List Byte) : State :=
  match parseAlert payload with
  | none => s.countMalformed
  | some (code, q) =>
    let r := refreshAlerts s.peerView.alerts code q sender
    { s with peerView := { s.peerView with
        alerts := r.1
        displaced := if r.2 then bump s.peerView.displaced else s.peerView.displaced } }

/-! ## Duplicate station -/

/-- A frame with the own number: DUPLICATE_STATION is raised and the link controller set listen-only (R34, R35, log entry
26). -/
def State.duplicateHeard (s : State) : State :=
  State.silence
    (State.raise { s with peerView := { s.peerView with duplicate := true } } .duplicateStation s.own.val)

/-! ## Limits -/

/-- The age of a FRESH entry has passed 60 ms (R23). -/
def State.peerStaleDue (s : State) (n : Fin 8) : Bool :=
  s.isPeer n && (s.peer n).freshness == .fresh && 60 < (s.peer n).age

/-- PEER_STALE, R23. -/
def execPeerStale (n : Fin 8) (s : State) : Host.Outcome State Fault Refusal :=
  .next (if s.peerStaleDue n then s.putPeer n { (s.peer n) with freshness := .stale } else s)

/-- The age of a FRESH or STALE entry has passed 200 ms (R23). -/
def State.peerLostDue (s : State) (n : Fin 8) : Bool :=
  s.isPeer n && ((s.peer n).freshness == .fresh || (s.peer n).freshness == .stale) && 200 < (s.peer n).age

/-- PEER_LOST, R23. -/
def execPeerLost (n : Fin 8) (s : State) : Host.Outcome State Fault Refusal :=
  .next (if s.peerLostDue n then
    State.raise (s.putPeer n { (s.peer n) with freshness := .lost }) .peerLost n.val else s)

/-- The age of an ABSENT entry has passed 2000 ms and PEER_LOST is not yet raised for it (R23, log entry
5). -/
def State.peerAbsentDue (s : State) (n : Fin 8) : Bool :=
  s.loaded && s.isPeer n && (s.peer n).freshness == .absent && 2000 < (s.peer n).age && !(s.peer n).limitReported

/-- PEER_ABSENT_LIMIT, R23. -/
def execPeerAbsentLimit (n : Fin 8) (s : State) : Host.Outcome State Fault Refusal :=
  .next (if s.peerAbsentDue n then
    State.raise (s.putPeer n { (s.peer n) with limitReported := true }) .peerLost n.val else s)

/-- The DEMAND record replaced but for its values. -/
def State.markDemand (s : State) (f : Freshness) : State :=
  { s with peerView := { s.peerView with demand := { s.peerView.demand with freshness := f } } }

/-- The age of a FRESH record has passed 30 ms (R28). -/
def State.demandStaleDue (s : State) : Bool := s.demandFreshness == .fresh && 30 < s.peerView.demand.age

/-- DEMAND_STALE, R28. -/
def execDemandStale (s : State) : Host.Outcome State Fault Refusal :=
  .next (if s.demandStaleDue then s.markDemand .stale else s)

/-- The age of a FRESH or STALE record has passed 100 ms (R28). -/
def State.demandLostDue (s : State) : Bool :=
  (s.demandFreshness == .fresh || s.demandFreshness == .stale) && 100 < s.peerView.demand.age

/-- DEMAND_LOST, R28; a running sweep watches the record (R169). -/
def execDemandLost (s : State) : Host.Outcome State Fault Refusal :=
  .next (if s.demandLostDue then ((s.markDemand .lost).raise .demandLost 0).checkSweep else s)

/-- The record is still ABSENT 2000 ms after the reset and the fault not yet raised (R28, log entry 5). -/
def State.demandAbsentDue (s : State) : Bool :=
  s.demandFreshness == .absent && 2000 ≤ s.peerView.demand.age && !s.peerView.demand.limitReported

/-- DEMAND_ABSENT_LIMIT, R28. -/
def execDemandAbsentLimit (s : State) : Host.Outcome State Fault Refusal :=
  .next (if s.demandAbsentDue then
    State.raise
      { s with peerView := { s.peerView with demand := { s.peerView.demand with limitReported := true } } }
      .demandLost 1
    else s)

/-- The entry with this code, qualifier and sender has an age above 60 ms (R32). -/
def AlertEntry.expired (a : AlertEntry) : Bool := 60 < a.age

/-- ALERT_EXPIRY, R32. -/
def execAlertExpiry (code : AlertCode) (qualifier : Byte) (sender : Fin 8) (s : State) :
    Host.Outcome State Fault Refusal :=
  .next { s with peerView := { s.peerView with
    alerts := s.peerView.alerts.filter fun a => !(a.is code qualifier sender && a.expired) } }

end Sys2Proof.Machine
end

