-- ==== Sys2Proof/Machine/EntranceOps.lean ====
section
/-! DEFINITION. Entrances and the stop brake (R130 to R147): the entrance period, the stop-brake valve, READY and
ENT_LOCKED, and the DEMAND computation of the CAB station. -/

namespace Sys2Proof.Machine

/-- Global entrance number, station number × 2 + slot. -/
def State.globalNumber (s : State) (slot : Slot) : Nat := 2 * s.own.val + slotNumber slot

/-- A slot is fitted. -/
def State.slotFitted (s : State) (slot : Slot) : Bool := atSlot s.cfg.fitted slot

/-- The record of a slot. -/
def State.entrance (s : State) (slot : Slot) : Option Entrance := atSlot s.interlock.records slot

/-- The record of a slot replaced. -/
def State.putEntrance (s : State) (slot : Slot) (e : Entrance) : State :=
  { s with interlock := { s.interlock with records := putSlot s.interlock.records (some e) slot } }

/-- The release bit of a slot as the DEMAND record reads (R131, R140). -/
def State.releaseBit (s : State) (slot : Slot) : Bool := s.demand.release.getLsbD (s.globalNumber slot)

/-! ## Stage 1 -/

/-- The record made at the first entrance period (R130). -/
def madeEntrance (i : SlotInputs) : Entrance :=
  { state := if i.closed && i.locked then .locked else .opened, inputs := i }

/-- The inputs and the release bit are read; a set bit sets the reversal count to 0 (R131). -/
def Entrance.readInputs (e : Entrance) (i : SlotInputs) (bit : Bool) : Entrance :=
  { e with inputs := i, bit, reversals := if bit then 0 else e.reversals }

/-- Stage 1 for one slot: the record is made when there is none (R130, log entry 11), then read (R131). -/
def State.readSlot (s : State) (slot : Slot) (i : SlotInputs) : State :=
  if s.slotFitted slot then
    s.putEntrance slot (((s.entrance slot).getD (madeEntrance i)).readInputs i (s.releaseBit slot))
  else s

/-! ## Stage 2: the states -/

/-- Entry to FAULT (R133). -/
def Entrance.toFault (e : Entrance) (cause : EntranceCause) : Entrance :=
  { e with state := .fault, phase := .none, timer := 0, cause }

/-- Entry to LOCKED: no phase and no fault cause. -/
def Entrance.toLocked (e : Entrance) : Entrance := { e with state := .locked, phase := .none, cause := .none }

/-- Entry to OPEN. -/
def Entrance.toOpened (e : Entrance) : Entrance := { e with state := .opened, phase := .none }

/-- Entry to a phase with its timer at 0. -/
def Entrance.toPhase (e : Entrance) (st : EntranceState) (p : Phase) : Entrance :=
  { e with state := st, phase := p, timer := 0 }

/-- LOCKED (R134); `mayRelease` is the release conditions but for the bit. -/
def Entrance.inLocked (e : Entrance) (mayRelease : Bool) : Entrance :=
  if !e.inputs.closed || !e.inputs.locked then { e with state := .breach, phase := .none }
  else if e.bit && mayRelease then e.toPhase .released .held
  else e

/-- RELEASED, HELD (R135). -/
def Entrance.inHeld (e : Entrance) : Entrance :=
  if !e.inputs.closed then e.toOpened
  else if e.bit && e.inputs.button then e.toOpened
  else if !e.bit then e.toPhase .released .relocking
  else e

/-- The phase timer grows by 10 ms, and at `limit` the entrance goes to FAULT (R135, R137, log entry
14). -/
def Entrance.timed (e : Entrance) (limit : Nat) (cause : EntranceCause) : Entrance :=
  if e.timer + 10 < limit then { e with timer := e.timer + 10 } else e.toFault cause

/-- RELEASED, RELOCKING (R135). -/
def Entrance.inRelocking (e : Entrance) : Entrance :=
  if e.bit then e.toPhase .released .held
  else if e.inputs.locked && e.inputs.closed then e.toLocked
  else if !e.inputs.closed then e.toOpened
  else e.timed 1000 .lockTimeout

/-- OPEN (R136). -/
def Entrance.inOpened (e : Entrance) : Entrance :=
  if !e.bit && e.reversals < 3 then e.toPhase .closing .driving else e

/-- CLOSING to OBSTRUCTED: the reversal is counted (R137). -/
def Entrance.obstruct (e : Entrance) : Entrance :=
  { e with state := .obstructed, phase := .none, timer := 0, reversals := growTo 3 1 e.reversals }

/-- CLOSING, DRIVING (R137). -/
def Entrance.inDriving (e : Entrance) : Entrance :=
  if e.bit then e.toOpened
  else if e.inputs.edge then e.obstruct
  else if e.inputs.closed then { e with phase := .latching, saved := e.timer, timer := 0 }
  else e.timed 8000 .closeTimeout

/-- CLOSING, LATCHING (R137). -/
def Entrance.inLatching (e : Entrance) : Entrance :=
  if e.bit then e.toOpened
  else if e.inputs.edge then e.obstruct
  else if e.inputs.locked then e.toLocked
  else if !e.inputs.closed then { e with phase := .driving, timer := e.saved }
  else e.timed 1000 .lockTimeout

/-- The end of 1000 ms of reopening (R138). -/
def Entrance.reopened (e : Entrance) : Entrance :=
  if e.reversals < 3 then e.toPhase .closing .driving else e.toOpened

/-- OBSTRUCTED (R138). -/
def Entrance.inObstructed (e : Entrance) : Entrance :=
  if e.bit then e.toOpened
  else if e.timer + 10 < 1000 then { e with timer := e.timer + 10 }
  else Entrance.reopened { e with timer := e.timer + 10 }

/-- BREACH and FAULT: back to LOCKED when both switches show it (R133, R139). -/
def Entrance.untilLocked (e : Entrance) : Entrance :=
  if e.inputs.closed && e.inputs.locked then e.toLocked else e

/-- The rule of the entrance's state (R133 to R139). -/
def Entrance.act (e : Entrance) (mayRelease : Bool) : Entrance :=
  match e.state, e.phase with
  | .locked, _ => e.inLocked mayRelease
  | .released, .relocking => e.inRelocking
  | .released, _ => e.inHeld
  | .opened, _ => e.inOpened
  | .closing, .latching => e.inLatching
  | .closing, _ => e.inDriving
  | .obstructed, _ => e.inObstructed
  | .breach, _ => e.untilLocked
  | .fault, _ => e.untilLocked

/-- The locked switch shows locked while the closed switch shows open (R133). -/
def Entrance.inconsistent (e : Entrance) : Bool := e.inputs.locked && !e.inputs.closed && e.state != .fault

/-- Stage 2 for one entrance: the consistency check, then the rule of its state (R131, R133). -/
def Entrance.step (e : Entrance) (mayRelease : Bool) : Entrance :=
  if e.inconsistent then e.toFault .inconsistent else e.act mayRelease

/-- The fault a change of state raises or ends (R133). -/
def State.entranceFault (s : State) (before after : Entrance) (global : Nat) : State :=
  if before.state != .fault && after.state == .fault then s.raise .entranceFault global
  else if before.state == .fault && after.state != .fault then s.finish .entranceFault global
  else s

/-- STOP, KNEEL, KNELT or PARK (R134). -/
def releaseMode (m : Mode) : Bool := m == .stop || m == .kneel || m == .knelt || m == .park

/-- The conditions of a release but for the bit (R134). -/
def State.mayRelease (s : State) : Bool :=
  releaseMode s.ladder.mode && s.brake.confirmed && !s.coilFailed 8 && !s.sweeping

/-- An entrance goes from one record to the next, with its fault. -/
def State.moveEntrance (s : State) (slot : Slot) (before after : Entrance) : State :=
  (s.putEntrance slot after).entranceFault before after (s.globalNumber slot)

/-- Stage 2 for one slot. -/
def State.stepSlot (s : State) (slot : Slot) : State :=
  if s.slotFitted slot then
    match s.entrance slot with
    | some e => s.moveEntrance slot e (e.step s.mayRelease)
    | none => s
  else s

/-! ## Stages 3 to 5 -/

/-- The outputs of a state and phase (R132). -/
def Entrance.outputsNow (e : Entrance) : SlotOutputs :=
  match e.state, e.phase with
  | .released, .relocking => ⟨false, false, false⟩
  | .released, _ => ⟨true, false, false⟩
  | .opened, _ => ⟨true, true, false⟩
  | .closing, .latching => ⟨false, false, true⟩
  | .closing, _ => ⟨true, false, true⟩
  | .obstructed, _ => ⟨true, true, false⟩
  | .locked, _ => ⟨false, false, false⟩
  | .breach, _ => ⟨false, false, false⟩
  | .fault, _ => ⟨false, false, false⟩

/-- Stage 3 (R132). -/
def State.setOutputs (s : State) : State :=
  { s with interlock := { s.interlock with records :=
      ⟨s.interlock.records.zero.map fun e => { e with outputs := e.outputsNow },
        s.interlock.records.one.map fun e => { e with outputs := e.outputsNow }⟩ } }

/-- The mode term of R141. -/
def valveMode (m : Mode) : Bool := m == .park || m == .stop || m == .kneel || m == .knelt || m == .raise

/-- The four terms of R141. -/
def State.valveTerms (s : State) : ValveTerms where
  byMode := valveMode s.ladder.mode
  byStart := s.ladder.mode == .start && s.ladder.qualifier == .standstill
  byOpen := s.someEntrance Entrance.isOpenish
  byFault := s.someEntrance Entrance.isFaulty && s.ownSpeed ≤ 50 && !s.demand.ovr

/-- Some term of R141 holds. -/
def ValveTerms.any (t : ValveTerms) : Bool := t.byMode || t.byStart || t.byOpen || t.byFault

/-- Stage 4 (R141). -/
def State.setValve (s : State) : State :=
  { s with interlock := { s.interlock with terms := s.valveTerms, valve := s.valveTerms.any } }

/-- ENT_LOCKED, any breach and READY (R142, R143). -/
def State.setFlags (s : State) : State :=
  { s with interlock := { s.interlock with entLocked := s.allLocked, anyBreach := s.breached, ready := s.readyNow } }

/-- The condition of the ENTRANCE_BREACH alert (R139). -/
def State.breachAlertHolds (s : State) (e : Entrance) : Bool := e.isBreach && 50 < s.ownSpeed

/-- The ENTRANCE_BREACH alert of one slot: its first frame, a repeat that is due, or its end (R139). -/
def State.breachAlert (s : State) (slot : Slot) : State :=
  match s.entrance slot with
  | none => s
  | some e =>
    if s.breachAlertHolds e then
      if !e.alerting || e.alertTimer == 0 then
        State.offerAlert (s.putEntrance slot { e with alerting := true, alertTimer := 20 }) .entranceBreach
          (s.globalNumber slot)
      else s
    else s.putEntrance slot { e with alerting := false, alertTimer := 0 }

/-- Stages 3 to 5 (R131); the alert of slot 0 is queued before that of slot 1 (log entry 34). -/
def State.entranceReport (s : State) : State :=
  ((s.setOutputs.setValve.setFlags).breachAlert .zero).breachAlert .one

/-- ENTRANCE_PERIOD (R131), slot 0 before slot 1 in every stage (log entry 34): nothing before the interlock starts to
act (R130); a running sweep watches the entrances (R169). A sweep that slot 0's change breaks still counts as RUNNING for
slot 1's release in the same period: it is aborted after stage 5 (DEDUCED, log entry 39). -/
def State.entrancePeriod (s : State) (i : Slots SlotInputs) : State :=
  if s.loaded then
    ((((s.readSlot .zero i.zero).readSlot .one i.one).stepSlot .zero).stepSlot .one).entranceReport.checkSweep
  else s

/-! ## The DEMAND computation -/

/-- The four conditions of the drive flag (R145). -/
def State.driveTermsNow (s : State) (w : Switches) : DriveTerms where
  entrances := w.ovr || (s.interlock.entLocked && s.peerNumbers.all s.peerEntLocked)
  readiness := s.interlock.ready &&
    s.peerNumbers.all fun n => if (s.peer n).heard.isSome then s.peerReady n else w.ovr
  articulation := !s.anyJackknife
  driver := !w.park && !w.stop && !w.kneel

/-- All four hold. -/
def DriveTerms.all (t : DriveTerms) : Bool := t.entrances && t.readiness && t.articulation && t.driver

/-- The values of the DEMAND formed (R144). -/
def State.formDemand (s : State) (w : Switches) : DemandValues where
  d := s.brake.d
  dValid := s.brake.dValid
  stop := w.stop
  kneel := w.kneel
  park := w.park
  rev := w.rev
  drive := (s.driveTermsNow w).all
  ovr := w.ovr
  release := if w.rel then s.cfg.busEntrances else 0

/-- The DEMAND payload. -/
def demandPayload (v : DemandValues) : List Byte :=
  bytesOf 2 v.d ++
  [BitVec.ofNat 8 (flagBit v.dValid 0 + flagBit v.stop 1 + flagBit v.kneel 2 + flagBit v.park 3 + flagBit v.rev 4 +
      flagBit v.drive 5 + flagBit v.ovr 6)] ++
  bytesOf 2 v.release.toNat

/-- The warning line (R146). -/
def State.warningNow (s : State) : Bool :=
  s.anyAlert || s.ladder.mode == .backup ||
    s.peerNumbers.any fun n => (s.peer n).heard.isNone || s.peerMode n == some .backup || s.peerBreach n

/-- The entrance line (R146). -/
def State.entranceLineNow (s : State) : Bool :=
  !s.interlock.entLocked || s.peerNumbers.any fun n => !s.peerEntLocked n

/-- The lines and what the SNAPSHOT shows of the run (R145, R146, R147). -/
def State.setLines (s : State) (w : Switches) : State :=
  { s with interlock := { s.interlock with
      demandTimer := 10
      switches := w
      driveTerms := s.driveTermsNow w
      driveFlag := (s.driveTermsNow w).all
      traction := (s.driveTermsNow w).all
      warning := s.warningNow
      entranceLine := s.entranceLineNow } }

/-- One run of the DEMAND computation (R144): the lines are set, the frame queued, the own record fed (R30). -/
def State.runDemand (s : State) (w : Switches) : State :=
  ((s.setLines w).offer (newEntry .demand 8 (demandPayload (s.formDemand w)))).acceptDemand (s.formDemand w)

/-- The 10 ms DEMAND timer of the CAB station has expired (R144, log entry 9). -/
def State.demandDue (s : State) : Bool := s.isCab && s.interlock.demandTimer == 0

/-! ## Meanings -/

/-- ENTRANCE_PERIOD, R131. -/
def execEntrancePeriod (inputs : Slots SlotInputs) (s : State) : Host.Outcome State Fault Refusal :=
  .next (s.entrancePeriod inputs)

/-- The record of a slot moved to another, and the rest of its period (stages 3 to 5). -/
def State.finishSlot (s : State) (slot : Slot) (before after : Entrance) : State :=
  (s.moveEntrance slot before after).entranceReport.checkSweep

/-- RELOCKING or LATCHING with the timer's last 10 ms due (R135, R137). -/
def Entrance.lockTimeoutDue (e : Entrance) : Bool :=
  ((e.state == .released && e.phase == .relocking) || (e.state == .closing && e.phase == .latching)) && 1000 ≤ e.timer + 10

/-- LOCK_TIMEOUT, R135, R137: the phase timer reaches 1000 ms. -/
def execLockTimeout (slot : Slot) (s : State) : Host.Outcome State Fault Refusal :=
  .next (match s.entrance slot with
    | some e => if e.lockTimeoutDue then s.finishSlot slot e (e.timed 1000 .lockTimeout) else s
    | none => s)

/-- DRIVING with the timer's last 10 ms due (R137). -/
def Entrance.closeTimeoutDue (e : Entrance) : Bool :=
  e.state == .closing && e.phase == .driving && 8000 ≤ e.timer + 10

/-- CLOSE_TIMEOUT, R137: the phase timer reaches 8000 ms. -/
def execCloseTimeout (slot : Slot) (s : State) : Host.Outcome State Fault Refusal :=
  .next (match s.entrance slot with
    | some e => if e.closeTimeoutDue then s.finishSlot slot e (e.timed 8000 .closeTimeout) else s
    | none => s)

/-- OBSTRUCTED with the timer's last 10 ms due and the release bit clear (R138). -/
def Entrance.reopeningDue (e : Entrance) : Bool := e.state == .obstructed && !e.bit && 1000 ≤ e.timer + 10

/-- REOPENING_DONE, R138: the phase timer reaches 1000 ms. -/
def execReopeningDone (slot : Slot) (s : State) : Host.Outcome State Fault Refusal :=
  .next (match s.entrance slot with
    | some e => if e.reopeningDue then s.finishSlot slot e e.inObstructed else s
    | none => s)

/-- The alert timer has expired in BREACH above speed 50 (R139). -/
def State.breachRepeatDue (s : State) (slot : Slot) : Bool :=
  match s.entrance slot with
  | some e => s.breachAlertHolds e && e.alerting && e.alertTimer == 0
  | none => false

/-- ENTRANCE_BREACH_REPEAT, R139. -/
def execEntranceBreachRepeat (slot : Slot) (s : State) : Host.Outcome State Fault Refusal :=
  .next (if s.breachRepeatDue slot then s.breachAlert slot else s)

/-- DEMAND_COMPUTATION, R144: a run when the DEMAND timer has expired. -/
def execDemandComputation (switches : Switches) (s : State) : Host.Outcome State Fault Refusal :=
  .next (if s.demandDue then s.runDemand switches else s)

end Sys2Proof.Machine
end

