-- ==== Sys2Proof/Machine/LadderOps.lean ====
section
/-! DEFINITION. The mode ladder (R1 to R18): the speed qualifier, the target mode, the edges and the causes of BACKUP.
-/

namespace Sys2Proof.Machine

/-- The qualifier that goes with an own speed and a still timer (R3). -/
def qualifierOf (speed still : Nat) : Qualifier :=
  if 5 < speed then .moving else if still == 500 then .standstill else .settling

/-- The still timer after a ladder period (R3). -/
def stillAfter (speed still : Nat) : Nat := if 5 < speed then 0 else growTo 500 10 still

/-- The speed qualifier is brought up to date (R3). -/
def State.updateQualifier (s : State) : State :=
  { s with ladder := { s.ladder with
      stillTimer := stillAfter s.ownSpeed s.ladder.stillTimer
      qualifier := qualifierOf s.ownSpeed (stillAfter s.ownSpeed s.ladder.stillTimer) } }

/-- The first line of R4's table that applies. -/
def targetOf (v : DemandValues) : Target :=
  if v.park then .park
  else if v.kneel then .knelt
  else if v.stop then .stop
  else if v.drive then .drive
  else .stop

/-- The target mode of the record as it stands (R4). -/
def State.targetNow (s : State) : Target :=
  match s.demandFreshness with
  | .fresh => targetOf s.demand
  | .stale => targetOf s.demand
  | .lost => .none
  | .absent => .none

/-- The edge of START (R6, R7). -/
def State.startEdge (s : State) : Mode :=
  if s.startUp.done && s.demandFreshness == .fresh then
    match s.ladder.target, s.ladder.qualifier with
    | .park, .standstill => .park
    | .stop, .standstill => .stop
    | .knelt, .standstill => .stop
    | .drive, .standstill => .stop
    | .drive, .moving => if s.noneOpen then .drive else .start
    | _, _ => .start
  else .start

/-- The edge of STOP (R10, R11). -/
def State.stopEdge (s : State) : Mode :=
  match s.ladder.target with
  | .park => if s.ladder.qualifier == .standstill then .park else .stop
  | .knelt => if s.ladder.qualifier == .standstill && s.brake.confirmed then .kneel else .stop
  | .drive => if s.demandFreshness == .fresh && s.interlock.ready && s.driveEntrances then .drive else .stop
  | .stop => .stop
  | .none => .stop

/-- A corner is locked at `target` (R114). -/
def Corner.lockedAt (c : Corner) (target : Int) : Bool := c.locked && c.target == target

/-- The kerb corner is locked at the kneel target; an excluded corner is not (R12). -/
def State.kerbLocked (s : State) : Bool :=
  (atSide s.levelling.corners s.cfg.kerb).height.valid &&
    (atSide s.levelling.corners s.cfg.kerb).lockedAt (-(s.cfg.kneelDepth : Int))

/-- Every corner that counts is locked at ride height (R14). -/
def State.rideLocked (s : State) : Bool :=
  (!s.levelling.corners.left.height.valid || s.levelling.corners.left.lockedAt 0) &&
    (!s.levelling.corners.right.height.valid || s.levelling.corners.right.lockedAt 0)

/-- The edge of the present rung, with no cause of BACKUP (R6 to R15, R17). The recovery timer is already the one of
this period (log entry 13); where two edges of a rung hold at once, log entry 15 says which is taken. -/
def State.edge (s : State) : Mode :=
  match s.ladder.mode with
  | .start => s.startEdge
  | .park => if s.demand.park then .park else .stop
  | .stop => s.stopEdge
  | .kneel =>
    if !s.demand.kneel && s.allLocked then .raise
    else if s.kerbLocked then .knelt
    else .kneel
  | .knelt => if !s.demand.kneel && s.allLocked then .raise else .knelt
  | .raise =>
    if s.demand.kneel then .kneel
    else if s.rideLocked && !s.breached then .stop
    else .raise
  | .drive => if s.demand.stop && s.ladder.qualifier == .standstill then .stop else .drive
  | .backup =>
    if !s.peerView.duplicate && s.startUp.status != .bad && s.ladder.recoveryTimer == 1000 &&
        s.ladder.qualifier == .standstill then .stop
    else .backup

/-- The recovery timer after a ladder period: in BACKUP it grows while the record is FRESH, and is 0 otherwise; out of
BACKUP it holds (R17). -/
def State.recoveryAfter (s : State) : Nat :=
  if s.ladder.mode == .backup then
    if s.demandFreshness == .fresh then growTo 1000 10 s.ladder.recoveryTimer else 0
  else s.ladder.recoveryTimer

/-- The qualifier and the target are updated first, with BACKUP's recovery timer (R2, R3, R4, R17). -/
def State.ladderInputs (s : State) : State :=
  let q := s.updateQualifier
  { q with ladder := { q.ladder with
      target := s.targetNow
      recoveryTimer := s.recoveryAfter
      startupSeen := s.ladder.startupTimer } }

/-- At most one edge: a cause of BACKUP goes first, and entry sets the recovery timer to 0 (R2, R16). -/
def State.takeEdge (s : State) : State :=
  if s.backupCause && s.ladder.mode != .backup then
    { s with ladder := { s.ladder with mode := .backup, recoveryTimer := 0 } }
  else { s with ladder := { s.ladder with mode := s.edge } }

/-- LADDER_PERIOD (R2); a sweep whose conditions the new mode or qualifier breaks is aborted (R169). The abort, which
makes start-up done in START, comes after the period's edge (log entry 32). -/
def State.ladderPeriod (s : State) : State := s.ladderInputs.takeEdge.checkSweep

/-! ## Meanings -/

/-- LADDER_PERIOD, R2. -/
def execLadderPeriod (s : State) : Host.Outcome State Fault Refusal := .next s.ladderPeriod

/-- The still timer's last 10 ms are due: the own speed is 5 or less and the timer at 490 or more (R3). -/
def State.stillDue (s : State) : Bool := s.ownSpeed ≤ 5 && 490 ≤ s.ladder.stillTimer

/-- STILL_TIMER_FULL, R3: the timer reaches 500 and the qualifier becomes STANDSTILL. -/
def execStillTimerFull (s : State) : Host.Outcome State Fault Refusal :=
  .next (if s.stillDue then s.updateQualifier else s)

/-- STARTUP_TIMER_LIMIT, R8: the cause of BACKUP stands from here until the record is FRESH (R16). -/
def execStartupTimerLimit (s : State) : Host.Outcome State Fault Refusal :=
  .next (if s.neverHeard then { s with ladder := { s.ladder with noDemandCause := true } } else s)

/-- The recovery timer's last 10 ms are due (R17). -/
def State.recoveryDue (s : State) : Bool :=
  s.ladder.mode == .backup && s.demandFreshness == .fresh && 990 ≤ s.ladder.recoveryTimer

/-- RECOVERY_TIMER_FULL, R17: the timer reaches 1000. -/
def execRecoveryTimerFull (s : State) : Host.Outcome State Fault Refusal :=
  .next (if s.recoveryDue then { s with ladder := { s.ladder with recoveryTimer := s.recoveryAfter } } else s)

end Sys2Proof.Machine
end

