-- ==== Sys2Proof/Machine/Snapshot.lean ====
section
/-! DEFINITION. The SNAPSHOT capture (R175) with each chapter's list of fields (R1, R21, R50, R61, R73, R94, R109, R129,
R147, R162, R170, R175). Named states are numbered from 0 in the order their chapter lists them, a flag as true or set
first, false or clear second (log entry 6); a block that the station does not have gives no bytes (log entry 7). -/

namespace Sys2Proof.Machine

/-! ## Fields -/

/-- A flag: the chapters list "true or false", "set or clear". -/
def flagByte (x : Bool) : List Byte := [if x then 0 else 1]

/-- An absent value of `w` bytes: all bits 1. -/
def absentBytes (w : Nat) : List Byte := List.replicate w 255

/-- A value of `w` bytes that may be absent. -/
def maybeBytes (w : Nat) : Option Nat → List Byte
  | some x => bytesOf w x
  | none => absentBytes w

/-- A signed value of `w` bytes that may be absent. -/
def maybeSigned (w : Nat) : Option Int → List Byte
  | some x => signedBytesOf w x
  | none => absentBytes w

/-- A flag that may be absent. -/
def maybeFlag : Option Bool → List Byte
  | some x => flagByte x
  | none => absentBytes 1

/-! ## Numbers of the named states -/

/-- R4's table, then NONE. -/
def Target.number : Target → Nat
  | .park => 0
  | .knelt => 1
  | .stop => 2
  | .drive => 3
  | .none => 4

/-- R3's table. -/
def Qualifier.number : Qualifier → Nat
  | .standstill => 0
  | .settling => 1
  | .moving => 2

/-- The peer entry table of The Peer View. -/
def Freshness.number : Freshness → Nat
  | .absent => 0
  | .fresh => 1
  | .stale => 2
  | .lost => 3

/-- The steering states table. -/
def SteerState.number : SteerState → Nat
  | .home => 0
  | .follow => 1
  | .pinned => 2

/-- None (R51), then R56's table. -/
def PinCause.number : PinCause → Nat
  | .none => 0
  | .tracking => 1
  | .sensor => 2
  | .coil => 3

/-- The brake block's state table. -/
def BrakeState.number : BrakeState → Nat
  | .electric => 0
  | .passthrough => 1

/-- The brake block's state table. -/
def PassCause.number : PassCause → Nat
  | .none => 0
  | .coil => 1
  | .sensor => 2

/-- R90's table. -/
def ModPosition.number : ModPosition → Nat
  | .openToDriver => 0
  | .hold => 1
  | .admitAir => 2
  | .vent => 3

/-- Slip control's state table. -/
def WheelState.number : WheelState → Nat
  | .off => 0
  | .apply => 1
  | .hold => 2
  | .dump => 3

/-- The corner record table. -/
def Valve.number : Valve → Nat
  | .closed => 0
  | .fill => 1
  | .exhaust => 2

/-- The block overview's Terms: ABUNDANT, LIMITED or SCARCE. -/
def Band.number : Band → Nat
  | .abundant => 0
  | .limited => 1
  | .scarce => 2

/-- R123: ABUNDANT, SCARCE, or start-up. -/
def LimitedFrom.number : LimitedFrom → Nat
  | .abundant => 0
  | .scarce => 1
  | .startUp => 2

/-- The entrance record table. -/
def EntranceState.number : EntranceState → Nat
  | .locked => 0
  | .released => 1
  | .opened => 2
  | .closing => 3
  | .obstructed => 4
  | .breach => 5
  | .fault => 6

/-- The entrance record table. -/
def Phase.number : Phase → Nat
  | .held => 0
  | .relocking => 1
  | .driving => 2
  | .latching => 3
  | .none => 4

/-- The entrance record table. -/
def EntranceCause.number : EntranceCause → Nat
  | .none => 0
  | .inconsistent => 1
  | .lockTimeout => 2
  | .closeTimeout => 3

/-- R163, R164: NOT_LOADED, GOOD, BAD. -/
def ConfigStatus.number : ConfigStatus → Nat
  | .notLoaded => 0
  | .good => 1
  | .bad => 2

/-- R167. -/
def SweepState.number : SweepState → Nat
  | .idle => 0
  | .running => 1
  | .done => 2
  | .aborted => 3

/-- R174. -/
def ReplySlot.number : ReplySlot → Nat
  | .free => 0
  | .waiting => 1
  | .queued => 2

/-! ## The blocks' captures -/

/-- The mode ladder (R1). -/
def State.captureLadder (s : State) : List Byte :=
  bytesOf 1 s.ladder.mode.code ++ bytesOf 1 s.ladder.target.number ++ bytesOf 1 s.ladder.qualifier.number ++
    bytesOf 2 s.ladder.stillTimer ++ bytesOf 2 s.ladder.startupSeen ++ bytesOf 2 s.ladder.recoveryTimer

/-- The recorded fields of a peer entry. -/
def PeerRecord.bytes (r : PeerRecord) : List Byte :=
  bytesOf 1 r.sect ++ bytesOf 1 (roleNumber r.role) ++ bytesOf 1 r.mode.code ++ bytesOf 2 r.load ++ bytesOf 2 r.speed ++
    bytesOf 2 r.deficit ++ flagByte r.filling ++ flagByte r.ready ++ flagByte r.entLocked ++ flagByte r.stopConfirmed ++
    flagByte r.anyBreach ++ [r.faultSummary] ++ maybeBytes 2 r.supply

/-- One slot of the peer table: 3 bytes and 17 of the record. -/
def State.capturePeer (s : State) (n : Fin 8) : List Byte :=
  if s.isPeer n then
    bytesOf 1 (s.peer n).freshness.number ++ bytesOf 2 (s.peer n).age ++
      (match (s.peer n).record with
        | some r => r.bytes
        | none => absentBytes 17)
  else absentBytes 20

/-- The DEMAND record. -/
def DemandRecord.bytes (r : DemandRecord) : List Byte :=
  bytesOf 1 r.freshness.number ++ bytesOf 2 r.age ++ bytesOf 2 r.values.d ++ flagByte r.values.dValid ++
    flagByte r.values.stop ++ flagByte r.values.kneel ++ flagByte r.values.park ++ flagByte r.values.rev ++
    flagByte r.values.drive ++ flagByte r.values.ovr ++ bytesOf 2 r.values.release.toNat

/-- An entry put in its place among entries in the order of replacement (R31). -/
def placeAlert (a : AlertEntry) : List AlertEntry → List AlertEntry
  | [] => [a]
  | b :: rest => if b.before a then b :: placeAlert a rest else a :: b :: rest

/-- The entries in the order of replacement, the greatest age first (R21, R31). -/
def orderAlerts : List AlertEntry → List AlertEntry
  | [] => []
  | a :: rest => placeAlert a (orderAlerts rest)

/-- One entry of the remote alert set. -/
def AlertEntry.bytes (a : AlertEntry) : List Byte :=
  bytesOf 1 (alertNumber a.code) ++ [a.qualifier] ++ bytesOf 1 a.sender.val ++ bytesOf 1 a.age

/-- The number of entries and the sixteen places. -/
def captureAlerts (set : List AlertEntry) : List Byte :=
  bytesOf 1 set.length ++ (orderAlerts set).flatMap AlertEntry.bytes ++ absentBytes (4 * (16 - set.length))

/-- The peer view (R21). -/
def State.capturePeerView (s : State) : List Byte :=
  bytesOf 1 s.own.val ++ (List.finRange 8).flatMap s.capturePeer ++ s.peerView.demand.bytes ++
    captureAlerts s.peerView.alerts ++ bytesOf 2 s.peerView.stranger ++ bytesOf 2 s.peerView.foreignDemand ++
    bytesOf 2 s.peerView.foreignTrace ++ bytesOf 2 s.peerView.malformed ++ bytesOf 2 s.peerView.displaced

/-- The due index of an offset with its entry's κ and filled flag; none is named while the queue is not ready (R47,
log entry 25). -/
def State.captureDue (s : State) (offset : Nat) : List Byte :=
  let due := if s.pathReady then dueEntry s.tracker.queue offset else none
  maybeBytes 2 (due.map (·.index.toNat)) ++ maybeSigned 2 (due.map (·.kappa)) ++ maybeFlag (due.map (·.filled))

/-- The path tracker, as it stands at the capture (R50, log entry 25). The newest index of an empty queue is absent, which is
the model's reading (log entry 25). -/
def State.captureTracker (s : State) : List Byte :=
  bytesOf 2 s.tracker.malformed ++ bytesOf 2 s.tracker.discarded ++ bytesOf 2 s.tracker.older ++
    bytesOf 2 s.tracker.filled ++ bytesOf 2 s.tracker.queue.length ++
    maybeBytes 2 ((newestIndex s.tracker.queue).map (·.toNat)) ++ flagByte s.pathReady ++
    bytesOf 1 s.tracker.rejectionRun ++ (if s.hasSteering then s.captureDue s.cfg.axleOffset else []) ++
    (if s.hasJoint then s.captureDue s.cfg.jointOffset else [])

/-- Steering (R61). -/
def State.captureSteering (s : State) : List Byte :=
  if s.hasSteering then
    bytesOf 1 s.steering.state.number ++ bytesOf 1 s.steering.cause.number ++ signedBytesOf 2 s.steering.dpSeen ++
      bytesOf 2 s.steering.fade ++ signedBytesOf 2 s.steering.target ++ signedBytesOf 2 s.steering.command ++
      maybeSigned 2 s.steering.measured ++ bytesOf 1 s.steering.trackingSeen
  else []

/-- The joint monitor (R73, log entry 25). -/
def State.captureJoint (s : State) : List Byte :=
  if s.hasJoint then
    bytesOf 1 s.jointNumber ++ flagByte s.joint.angle.valid ++ bytesOf 1 s.joint.angle.recovery ++
      maybeSigned 2 s.joint.angle.value ++ maybeSigned 2 s.joint.phiE ++ maybeBytes 2 s.joint.lastMismatch ++
      bytesOf 1 s.joint.mismatch ++ bytesOf 1 s.joint.clear ++ flagByte s.joint.jackknife ++ flagByte s.joint.limit ++
      s.captureDue s.cfg.jointOffset
  else []

/-- A pressure sensor: its reading in two bytes, its status and its recovery count. -/
def capturePressure (q : Sensor Nat) : List Byte := maybeBytes 2 q.value ++ flagByte q.valid ++ bytesOf 1 q.recovery

/-- The brake block (R94, log entry 25). -/
def State.captureBrake (s : State) : List Byte :=
  bytesOf 1 s.brake.state.number ++ bytesOf 1 s.brake.cause.left.number ++ bytesOf 1 s.brake.cause.right.number ++
    bytesOf 1 s.brake.position.left.number ++ bytesOf 1 s.brake.position.right.number ++
    capturePressure s.brake.chamber.left ++ capturePressure s.brake.chamber.right ++ bytesOf 2 s.brake.dUsed ++
    bytesOf 2 s.brake.mOwn ++ bytesOf 3 s.brake.wOwn ++ bytesOf 2 s.brake.mTot ++ bytesOf 4 s.brake.wSum ++
    bytesOf 3 s.brake.fBase ++ bytesOf 3 s.brake.defSum ++ bytesOf 4 s.brake.wNoDef ++ bytesOf 3 s.brake.cap ++
    bytesOf 3 s.brake.takeover ++ bytesOf 2 s.brake.pBase ++ bytesOf 2 s.brake.pReq ++ bytesOf 2 s.brake.targets.left ++
    bytesOf 2 s.brake.targets.right ++ bytesOf 3 s.brake.deficit ++ flagByte s.brake.confirmed ++
    (if s.isCab then
      maybeBytes 2 s.brake.ped1 ++ maybeBytes 2 s.brake.ped2 ++ bytesOf 2 s.brake.d ++ flagByte s.brake.dValid
    else [])

/-- One wheel's slip, state, flags and counts. -/
def Wheel.bytes (w : Wheel) : List Byte :=
  maybeBytes 2 w.slip ++ bytesOf 1 w.state.number ++ flagByte w.reapply ++ bytesOf 1 w.grip ++ bytesOf 1 w.lock ++
    flagByte w.degraded

/-- Slip control (R109). -/
def State.captureSlip (s : State) : List Byte :=
  bytesOf 2 s.slip.wheels.left.speed ++ bytesOf 2 s.slip.wheels.right.speed ++ bytesOf 2 s.ownSpeed ++
    bytesOf 2 s.slip.vref ++ s.slip.wheels.left.bytes ++ s.slip.wheels.right.bytes ++
    bytesOf 2 s.slip.wheels.left.target ++ bytesOf 2 s.slip.wheels.right.target

/-- One corner; `kerb` tells whether it is the kerb corner. The trim and the valve state are those of the last levelling
period, whatever has changed them since (R129). The target it holds at is absent while it is not locked (log
entry 25). -/
def Corner.bytes (c : Corner) (kerb : Bool) : List Byte :=
  flagByte kerb ++ maybeSigned 2 c.height.value ++ signedBytesOf 1 c.trimSeen ++ maybeSigned 2 c.h ++
    flagByte c.height.valid ++ bytesOf 1 c.height.recovery ++ signedBytesOf 1 c.target ++ maybeSigned 2 c.err ++
    bytesOf 1 c.inBand ++ bytesOf 1 c.outBand ++ flagByte c.locked ++
    maybeSigned 1 (if c.locked then some c.target else none) ++ bytesOf 1 c.valveSeen.number ++ flagByte c.calls ++
    flagByte c.starved

/-- Levelling (R129). The two bytes of the used-slice count, whose range is not printed, are the model's reading (log entry
25). -/
def State.captureLevelling (s : State) : List Byte :=
  s.levelling.corners.left.bytes (s.cfg.kerb == .left) ++ s.levelling.corners.right.bytes (s.cfg.kerb == .right) ++
    capturePressure s.levelling.corners.left.bellows ++ capturePressure s.levelling.corners.right.bellows ++
    bytesOf 2 s.levelling.load ++ maybeBytes 2 s.ownSupply ++ flagByte s.levelling.supply.valid ++
    maybeBytes 2 s.levelling.supplyValue ++ maybeBytes 1 (s.levelling.band.map Band.number) ++
    maybeBytes 1 (s.levelling.limitedFrom.map LimitedFrom.number) ++ bytesOf 2 s.levelling.allowance ++
    maybeBytes 2 s.levelling.windowSupply ++ bytesOf 1 s.levelling.n ++ bytesOf 2 s.levelling.share ++
    bytesOf 2 s.levelling.limit ++ bytesOf 2 s.levelling.used ++ bytesOf 1 s.levelling.elapsed ++
    flagByte s.levelling.filling ++ bytesOf 2 s.levelling.raiseTimer

/-- The record of an entrance. -/
def Entrance.bytes (e : Entrance) : List Byte :=
  bytesOf 1 e.state.number ++ bytesOf 1 e.phase.number ++ bytesOf 2 e.timer ++ bytesOf 2 e.saved ++
    bytesOf 1 e.reversals ++ bytesOf 1 e.cause.number ++ flagByte e.inputs.closed ++ flagByte e.inputs.locked ++
    flagByte e.inputs.edge ++ flagByte e.inputs.button ++ flagByte e.outputs.unlock ++ flagByte e.outputs.openDrive ++
    flagByte e.outputs.closeDrive ++ flagByte e.bit

/-- A fitted slot: the global number and 16 bytes of the record. -/
def State.captureSlot (s : State) (slot : Slot) : List Byte :=
  if s.slotFitted slot then
    bytesOf 1 (s.globalNumber slot) ++
      (match s.entrance slot with
        | some e => e.bytes
        | none => absentBytes 16)
  else []

/-- The switches as read at the last run. -/
def switchBytes (w : Switches) : List Byte :=
  flagByte w.stop ++ flagByte w.kneel ++ flagByte w.park ++ flagByte w.rev ++ flagByte w.ovr ++ flagByte w.rel

/-- The drive flag with which of its conditions failed, and the three lines (CAB). -/
def Interlock.cabBytes (i : Interlock) : List Byte :=
  switchBytes i.switches ++ flagByte i.driveFlag ++ flagByte (!i.driveTerms.entrances) ++
    flagByte (!i.driveTerms.readiness) ++ flagByte (!i.driveTerms.articulation) ++ flagByte (!i.driveTerms.driver) ++
    flagByte i.traction ++ flagByte i.warning ++ flagByte i.entranceLine

/-- The entrance interlock (R147). -/
def State.captureInterlock (s : State) : List Byte :=
  s.captureSlot .zero ++ s.captureSlot .one ++ flagByte s.interlock.valve ++ flagByte s.interlock.terms.byMode ++
    flagByte s.interlock.terms.byStart ++ flagByte s.interlock.terms.byOpen ++ flagByte s.interlock.terms.byFault ++
    flagByte s.interlock.ready ++ flagByte s.interlock.entLocked ++ flagByte s.interlock.anyBreach ++
    (if s.isCab then s.interlock.cabBytes else [])

/-- A queue place: kind, class and time. -/
def Entry.bytes (e : Entry) : List Byte := bytesOf 1 e.kind.code ++ bytesOf 1 e.cls ++ bytesOf 2 e.time

/-- The link controller (R162). -/
def State.captureLink (s : State) : List Byte :=
  bytesOf 2 s.link.received ++ bytesOf 2 s.link.format ++ bytesOf 2 s.link.checkError ++ bytesOf 2 s.link.rejected ++
    bytesOf 2 s.link.sent ++ bytesOf 2 s.link.unacked ++ bytesOf 2 s.link.sendError ++ bytesOf 2 s.link.traceDropped ++
    bytesOf 2 s.link.displaced ++ bytesOf 2 s.link.queueDropped ++ bytesOf 2 s.link.serviceShed ++
    bytesOf 1 s.link.ackMiss ++ bytesOf 1 s.link.queue.length ++ s.link.queue.flatMap Entry.bytes ++
    absentBytes (4 * (8 - s.link.queue.length)) ++ flagByte s.link.shed ++ flagByte s.link.listenOnly

/-- The start-up block (R170). -/
def State.captureStartUp (s : State) : List Byte :=
  maybeBytes 1 (s.startUp.strap.map (·.val)) ++ bytesOf 1 s.startUp.status.number ++
    maybeBytes 1 s.startUp.badQualifier ++ bytesOf 1 s.startUp.sweep.state.number ++ bytesOf 1 s.startUp.sweep.coil ++
    bytesOf 1 s.startUp.sweep.step ++ bytesOf 2 s.startUp.sweep.pattern.toNat ++
    bytesOf 2 s.startUp.sweep.driveSig.toNat ++ bytesOf 2 s.startUp.sweep.senseSig.toNat ++
    (s.startUp.coils.toList.take s.coilCount).flatMap fun c => bytesOf 1 c.number

/-- The fault list and the service block (R175). -/
def State.captureService (s : State) : List Byte :=
  bytesOf 1 s.faults.records.length ++ flagByte s.faults.overflow ++ bytesOf 2 s.faults.seconds ++
    bytesOf 1 s.service.slot.number ++ bytesOf 2 s.service.busyDrop ++ bytesOf 2 s.service.unknown

/-- A capture of the whole station, in the order of the block overview (R175). -/
def State.captureAll (s : State) : List (List Byte) :=
  [s.captureLadder, s.capturePeerView, s.captureTracker, s.captureSteering] ++
    [s.captureJoint, s.captureBrake, s.captureSlip, s.captureLevelling] ++
    [s.captureInterlock, s.captureLink, s.captureStartUp, s.captureService]

/-- Part `p`, page `q` of a block's capture: twelve bytes from 48p + 12q on, 0 beyond its end (R175). -/
def pageOf (block : List Byte) (part page : Nat) : List Byte :=
  (List.range 12).map fun i => block.getD (48 * part + 12 * page + i) 0

end Sys2Proof.Machine
end

