-- ==== Sys2Proof/Machine/BrakeBlock.lean ====
section
/-! DEFINITION. Service braking and load sharing (R74 to R94): the brake period. -/

namespace Sys2Proof.Machine

/-! ## Stage 1: chambers and pedals -/

/-- One chamber sensor is read (R81). -/
def State.readChamber (s : State) (side : Side) (v : Microvolt) : State :=
  let (q, e) := (atSide s.brake.chamber side).read (chamberReading v)
  State.sensorFault { s with brake := { s.brake with chamber := putSide s.brake.chamber q side } } e .pressureSensor
    (sideNumber side)

/-- The greater reading of the channels that read, if any does (R77). -/
def greaterPedal : Option Nat → Option Nat → Option Nat
  | some a, some b => some (max a b)
  | some a, none => some a
  | none, some b => some b
  | none, none => none

/-- Two valid channels more than 50 permille apart (R77). -/
def pedalsDiffer : Option Nat → Option Nat → Bool
  | some a, some b => 50 < max a b - min a b
  | some _, none => false
  | none, some _ => false
  | none, none => false

/-- A PEDAL_MISMATCH condition: raised at the first period at which it holds, ended at the first at which it does not
(R77). -/
def State.pedalFault (s : State) (before now : Bool) (q : Nat) : State :=
  if now && !before then s.raise .pedalMismatch q
  else if !now && before then s.finish .pedalMismatch q
  else s

/-- Both pedal channels are read and D and D_valid computed, on the CAB station (R76, R77). Faults that change at one
period are reported in the order of their qualifiers (log entry 34). -/
def State.readPedals (s : State) (p : Pedals) : State :=
  if !s.isCab then s
  else
    let c1 := pedalReading p.ped1
    let c2 := pedalReading p.ped2
    let t := ((s.pedalFault s.brake.mismatch0 (pedalsDiffer c1 c2) 0).pedalFault s.brake.mismatch1 c1.isNone 1).pedalFault
      s.brake.mismatch2 c2.isNone 2
    { t with brake := { t.brake with
        ped1 := c1
        ped2 := c2
        d := ((greaterPedal c1 c2).getD 0) * s.cfg.dmax / 1000
        dValid := (greaterPedal c1 c2).isSome
        mismatch0 := pedalsDiffer c1 c2
        mismatch1 := c1.isNone
        mismatch2 := c2.isNone } }

/-! ## Stage 2: passthrough and the brake state -/

/-- A wheel's passthrough cause (R80). -/
def State.passCause (s : State) (side : Side) : PassCause :=
  if s.coilFailed (wheelCoils side).1 || s.coilFailed (wheelCoils side).2 then .coil
  else if !(atSide s.brake.chamber side).valid then .sensor
  else .none

/-- PASSTHROUGH holds (R79). -/
def State.passesThrough (s : State) : Bool :=
  s.ladder.mode == .backup || s.demandFreshness == .lost || !s.demand.dValid

/-- Stage 2. -/
def State.decideBrake (s : State) : State :=
  { s with brake := { s.brake with
      cause := ⟨s.passCause .left, s.passCause .right⟩
      state := if s.passesThrough then .passthrough else .electric } }

/-! ## Stage 3: shares, takeover and pressures -/

/-- The number of joints in front of a section for which JACKKNIFE is active (R71). -/
def State.jackknifesBefore (s : State) (sect : Nat) : Nat :=
  ((List.range 3).filter fun k => decide (k < sect) && s.jackknifed k).length

/-- The bias of a station of a section, permille (R84). -/
def State.bias (s : State) (sect : Nat) : Nat :=
  1000 + s.cfg.stretch * sect + s.cfg.boost * s.jackknifesBefore sect

/-- The own load, raised to unsprung (R83). -/
def State.ownLoad (s : State) : Nat := max s.cfg.unsprung s.levelling.load

/-- The own weight (R84). -/
def State.ownWeight (s : State) : Nat := s.ownLoad * s.bias s.cfg.sections[s.own]

/-- The weight of peer `n` (R84). -/
def State.peerWeight (s : State) (n : Fin 8) : Nat := s.peerLoad n * s.bias (s.peerSection n)

/-- The load sum over the own station and every present peer (R83). -/
def State.loadSum (s : State) : Nat := s.ownLoad + (s.peerNumbers.map s.peerLoad).sum

/-- The sum of the weights (R84). -/
def State.weightSum (s : State) : Nat := s.ownWeight + (s.peerNumbers.map s.peerWeight).sum

/-- F_base = D × Mtot × W_own / (10 × S), half away from zero (R85). -/
def baseShare (d mTot wOwn wSum : Nat) : Nat := roundHalfUp (d * mTot * wOwn) (10 * wSum)

/-- The deficits of the FRESH peers, N (R86). -/
def State.deficitSum (s : State) : Nat := (s.peerNumbers.map fun n => 10 * s.peerDeficit n).sum

/-- A peer that is heard and has no deficit (R86). -/
def State.ableWeight (s : State) (n : Fin 8) : Nat :=
  if (s.peer n).heard.isSome && s.peerDeficit n == 0 then s.peerWeight n else 0

/-- S_nodef: the weights of the stations without a deficit (R86); `prev` is the own deficit of the previous period. -/
def State.ableSum (s : State) (prev : Nat) : Nat :=
  (if prev == 0 then s.ownWeight else 0) + (s.peerNumbers.map s.ableWeight).sum

/-- The cap of the takeover (R87, log entry 30). -/
def takeoverLimit (fBase takeoverCap : Nat) : Nat := fBase * takeoverCap / 1000

/-- The takeover T (R87). -/
def takeoverOf (prev defSum wOwn wNoDef cap : Nat) : Nat :=
  if prev != 0 || defSum == 0 then 0 else min (defSum * wOwn / wNoDef) cap

/-- p_base and, before its clamp, p_req (R88). -/
def pressureOf (force perKpa : Nat) : Nat := roundHalfUp force perKpa

/-- The brake record in ELECTRIC after stage 3. -/
def State.electricShares (s : State) : Brake :=
  let dUsed := s.demand.d
  let fBase := baseShare dUsed s.loadSum s.ownWeight s.weightSum
  let cap := takeoverLimit fBase s.cfg.takeoverCap
  let t := takeoverOf s.brake.deficit s.deficitSum s.ownWeight (s.ableSum s.brake.deficit) cap
  { s.brake with
    dUsed
    mOwn := s.ownLoad
    wOwn := s.ownWeight
    mTot := s.loadSum
    wSum := s.weightSum
    fBase
    defSum := s.deficitSum
    wNoDef := s.ableSum s.brake.deficit
    cap
    takeover := t
    pBase := pressureOf fBase s.cfg.forcePerKpa
    pReq := min (pressureOf (fBase + t) s.cfg.forcePerKpa) s.cfg.pMax }

/-- The brake record in PASSTHROUGH after stage 3 (R79). -/
def Brake.noShares (b : Brake) : Brake :=
  { b with
    dUsed := 0
    mOwn := 0
    wOwn := 0
    mTot := 0
    wSum := 0
    fBase := 0
    defSum := 0
    wNoDef := 0
    cap := 0
    takeover := 0
    pBase := 0
    pReq := 0 }

/-- Stage 3. -/
def State.shareBraking (s : State) : State :=
  { s with brake := if s.brake.state == .electric then s.electricShares else s.brake.noShares }

/-! ## Stage 4: the modulators -/

/-- The pressure loop of one wheel (R89). A chamber without a reading holds (log entry 30). -/
def loopPosition (pMax target : Nat) (pressure : Option Nat) : ModPosition :=
  match pressure with
  | none => .hold
  | some p =>
    if p + 10 < min target pMax then .admitAir
    else if min target pMax + 10 < p then .vent
    else .hold

/-- A wheel's modulator position until the next brake period: off in PASSTHROUGH, for a wheel in passthrough, and while
a sweep drives the coils (R82, R89, R90). -/
def State.modulator (s : State) (side : Side) : ModPosition :=
  if s.brake.state == .passthrough || s.sweeping || atSide s.brake.cause side != .none then .openToDriver
  else loopPosition s.cfg.pMax (atSide s.slip.wheels side).target (atSide s.brake.chamber side).value

/-- Stage 4. -/
def State.driveModulators (s : State) : State :=
  { s with brake := { s.brake with
      targets := ⟨s.slip.wheels.left.target, s.slip.wheels.right.target⟩
      position := ⟨s.modulator .left, s.modulator .right⟩
      driving := !s.sweeping } }

/-! ## Stage 5: deficit and confirmation -/

/-- The effective pressure of one wheel (R91). -/
def State.effective (s : State) (side : Side) : Nat :=
  if atSide s.brake.cause side != .none then s.brake.pBase
  else min (atSide s.slip.wheels side).target s.brake.pBase

/-- The deficit (R91): truncated subtraction is the "0 when that is below 0". -/
def State.deficitNow (s : State) : Nat :=
  if s.brake.state == .passthrough then 0
  else s.brake.fBase - s.cfg.forcePerKpa * (s.effective .left + s.effective .right) / 2

/-- A chamber sensor is VALID with a pressure at or above the threshold (R93). -/
def Sensor.atLeast (q : Sensor Nat) (threshold : Nat) : Bool :=
  q.valid && (match q.value with
    | some p => threshold ≤ p
    | none => false)

/-- Stop-brake confirmation (R93). -/
def State.confirmedNow (s : State) : Bool :=
  s.brake.chamber.left.atLeast s.cfg.confirmThreshold && s.brake.chamber.right.atLeast s.cfg.confirmThreshold

/-- Stage 5. -/
def State.measureBraking (s : State) : State :=
  { s with brake := { s.brake with deficit := s.deficitNow, confirmed := s.confirmedNow } }

/-- BRAKE_PERIOD (R75): nothing before the block starts to act (R74). -/
def State.brakePeriod (s : State) (chambers : Sides Microvolt) (pedals : Pedals) : State :=
  if s.loaded then
    (((((s.readChamber .left chambers.left).readChamber .right chambers.right).readPedals
      pedals).decideBrake).shareBraking.driveModulators).measureBraking
  else s

/-! ## Coil outputs -/

/-- The coil MOD_LA or MOD_RA of a position (R90). -/
def ModPosition.admitCoil : ModPosition → Bool
  | .openToDriver => false
  | .hold => false
  | .admitAir => true
  | .vent => true

/-- The hold coil of a position (R90). -/
def ModPosition.holdCoil : ModPosition → Bool
  | .openToDriver => false
  | .hold => true
  | .admitAir => true
  | .vent => false

/-! ## Meanings -/

/-- BRAKE_PERIOD, R75. -/
def execBrakePeriod (chambers : Sides Microvolt) (pedals : Pedals) (s : State) : Host.Outcome State Fault Refusal :=
  .next (s.brakePeriod chambers pedals)

/-- CHAMBER_SENSOR_RECOVERY, R81: the reading that brings the recovery count to 10. -/
def execChamberSensorRecovery (side : Side) (level : Microvolt) (s : State) : Host.Outcome State Fault Refusal :=
  .next (if s.loaded && (atSide s.brake.chamber side).recovers (chamberReading level) then s.readChamber side level
    else s)

end Sys2Proof.Machine
end

