-- ==== Sys2Proof/Machine/StartUpOps.lean ====
section
/-! DEFINITION. Resets, the reading of the configuration, and the coil sweep (R163 to R170, R172). -/

namespace Sys2Proof.Machine

/-! ## Resets -/

/-- The station number the strap pins give: STN0 + 2 × STN1 + 4 × STN2 (R164). -/
def strapNumber (p : StrapPins) : Fin 8 :=
  Fin.ofNat 8 ((if p.stn0 then 1 else 0) + (if p.stn1 then 2 else 0) + (if p.stn2 then 4 else 0))

/-- Every block at its reset value (R163), and START's first step taken: the straps are read (R164). The commands that
wait are none of the part's state, and stay (log entry 24). -/
def State.resetWith (s : State) (pins : StrapPins) (faults : FaultList) : State :=
  { pending := s.pending
    startUp := { pins, strap := some (strapNumber pins) }
    faults }

/-- POWER_ON_RESET, R163: the fault list is emptied (R172). -/
def execPowerOnReset (pins : StrapPins) (s : State) : Host.Outcome State Fault Refusal := .next (s.resetWith pins {})

/-- What a service restart keeps of the fault list (R172): every record with its active flag clear, and the overflow
flag; the seconds counter starts at 0. -/
def FaultList.kept (f : FaultList) : FaultList :=
  { records := f.records.map fun r => { r with active := false }
    overflow := f.overflow }

/-- An allowed RESTART's reply slot is FREE again (R177). -/
def State.restartDue (s : State) : Bool := s.service.restartArmed && s.service.slot == .free

/-- SERVICE_RESTART, R177. -/
def execServiceRestart (pins : StrapPins) (s : State) : Host.Outcome State Fault Refusal :=
  .next (if s.restartDue then s.resetWith pins s.faults.kept else s)

/-! ## The configuration -/

/-- The strap number is read if START's first step has not been taken yet (R164). -/
def State.readStraps (s : State) : State :=
  { s with startUp := { s.startUp with strap := some (s.startUp.strap.getD (strapNumber s.startUp.pins)) } }

/-- An image is held in working form; a bad one is the default image, with CONFIG_BAD raised (R164, R165). -/
def State.holdImage (s : State) (bytes : List Byte) : State :=
  match imageFault s.own bytes with
  | none => { s with startUp := { s.startUp with
      config := some (parseImage bytes)
      status := .good } }
  | some q =>
    State.raise
      { s with startUp := { s.startUp with
          config := some defaultImage
          status := .bad
          badQualifier := some q } }
      .configBad q

/-- A corner takes its configured trim (R110). -/
def Corner.withTrim (c : Corner) (trim : Int) : Corner :=
  { c with
    trim
    trimSeen := trim }

/-- The blocks start to act on the configuration: the trims (R110), the axle load before its first measurement (R120),
the DEMAND timer (R144). -/
def State.blocksStart (s : State) : State :=
  { s with
    levelling := { s.levelling with
      corners :=
        ⟨s.levelling.corners.left.withTrim s.cfg.trim.left, s.levelling.corners.right.withTrim s.cfg.trim.right⟩
      load := s.cfg.unsprung }
    interlock := { s.interlock with demandTimer := 0 } }

/-- The STATE timer starts, and the first STATE is queued at that moment (R148, R161). -/
def State.firstState (s : State) : State := State.offerState { s with link := { s.link with stateTimer := 20 } }

/-- The image read completes (R164, log entry 24). -/
def State.configure (s : State) (image : List Byte) : State :=
  ((s.readStraps.holdImage image).blocksStart).firstState

/-- CONFIGURATION_IMAGE_READ, R164: the image is read once after a reset. -/
def execConfigurationImageRead (image : List Byte) (s : State) : Host.Outcome State Fault Refusal :=
  .next (if s.startUp.status == .notLoaded then s.configure image else s)

/-! ## Sweep or skip -/

/-- START's choice is to be made: a good image, still in START, not decided, the qualifier no longer SETTLING (R166). -/
def State.choiceDue (s : State) : Bool :=
  s.startUp.status == .good && s.ladder.mode == .start && !s.startUp.decided && !s.startUp.done &&
    s.ladder.qualifier != .settling

/-- The choice (R166): a sweep at STANDSTILL when its start conditions hold, else a skip with start-up done at once. -/
def State.sweepOrSkip (s : State) : State :=
  if s.sweepMayStart then State.startSweep { s with startUp := { s.startUp with decided := true } }
  else { s with startUp := { s.startUp with
    decided := true
    done := true } }

/-- SWEEP_OR_SKIP, R166. -/
def execSweepOrSkip (s : State) : Host.Outcome State Fault Refusal :=
  .next (if s.choiceDue then s.sweepOrSkip else s)

/-! ## A step of a coil test -/

/-- The exclusive-or of bits 0, 2, 3 and 5, the taps (R168). -/
def taps (r : Half) : Bool := (r.getLsbD 0 ^^ r.getLsbD 2) ^^ (r.getLsbD 3 ^^ r.getLsbD 5)

/-- A register moved one place toward its lowest bit with `top` as its new highest bit. -/
def shiftIn (r : Half) (top : Bool) : Half := (r >>> 1) ||| (if top then 0x8000#16 else 0#16)

/-- The drive bit of the step, the pattern register's lowest bit. -/
def Sweep.driveBit (w : Sweep) : Bool := w.pattern.getLsbD 0

/-- The three registers and the step count after a step (R168). -/
def Sweep.advance (w : Sweep) (feedback : Bool) : Sweep :=
  { w with
    step := w.step + 1
    pattern := shiftIn w.pattern (taps w.pattern)
    driveSig := shiftIn w.driveSig (taps w.driveSig ^^ w.driveBit)
    senseSig := shiftIn w.senseSig (taps w.senseSig ^^ feedback) }

/-- The result of a test of 32 steps (R168). -/
def Sweep.result (w : Sweep) : CoilResult := if w.driveSig == w.senseSig then .pass else .fail

/-- A coil's result is recorded; a FAIL raises COIL_FAIL (R170). -/
def State.recordCoil (s : State) (i : Nat) (r : CoilResult) : State :=
  let t := { s with startUp := { s.startUp with coils := s.startUp.coils.setIfInBounds i r } }
  if r == .fail then t.raise .coilFail i else t

/-- One step of the coil in test, and the next coil after the 32nd (R168). -/
def State.sweepStep (s : State) (feedback : Bool) : State :=
  let w := s.startUp.sweep.advance feedback
  let t := { s with startUp := { s.startUp with sweep := w } }
  if w.step < 32 then t else (t.recordCoil w.coil w.result).sweepFrom (w.coil + 1)

/-- SWEEP_STEP, R168; a sweep whose conditions no longer hold is aborted, and the step counts for nothing (R169). -/
def execSweepStep (feedback : Bool) (s : State) : Host.Outcome State Fault Refusal :=
  .next (if s.sweeping then (if s.sweepMayRun then s.sweepStep feedback else s.endSweep .aborted) else s)

/-! ## The coils as they are driven -/

/-- The ten coil drives in coil number order: a RUNNING sweep drives its coil for the first half of a step whose drive
bit is 1 and the other blocks drive none of theirs, but for the stop-brake valve while it is not in test (R167, R168);
out of a sweep each block drives its own, from its first period after the sweep on (R61, R82, R90, R117, R141, log
entry 31). -/
def State.coilOn (s : State) (i : Nat) : Bool :=
  if s.sweeping then
    if i == s.startUp.sweep.coil then s.startUp.sweep.driveBit else i == 8 && s.interlock.valve
  else
    match i with
    | 0 => s.brake.driving && s.brake.position.left.admitCoil
    | 1 => s.brake.driving && s.brake.position.left.holdCoil
    | 2 => s.brake.driving && s.brake.position.right.admitCoil
    | 3 => s.brake.driving && s.brake.position.right.holdCoil
    | 4 => s.levelling.corners.left.valve == .fill
    | 5 => s.levelling.corners.left.valve == .exhaust
    | 6 => s.levelling.corners.right.valve == .fill
    | 7 => s.levelling.corners.right.valve == .exhaust
    | 8 => s.interlock.valve
    | 9 => s.steering.lockOn
    | _ => false

end Sys2Proof.Machine
end

