-- ==== Sys2Proof/Machine/ServiceOps.lean ====
section
/-! DEFINITION. The service block (R174 to R177): how a SERVICE_REQ is taken and what each request does. -/

namespace Sys2Proof.Machine

/-! ## Replies -/

/-- A reply's payload: the request code echoed, the result, the data. -/
def replyPayload (code : Nat) (r : Result) (data : List Byte) : List Byte :=
  [BitVec.ofNat 8 code, BitVec.ofNat 8 r.code] ++ data

/-- The request is answered to its sender (R174). -/
def State.answer (s : State) (sender : Fin 8) (code : Nat) (r : Result) (data : List Byte) : State :=
  s.offerReply ⟨sender.val, replyPayload code r data⟩

/-! ## SNAPSHOT and the fault list (R175) -/

/-- The page, block and part that SNAPSHOT's arguments ask for, none when they are out of range; an absent argument
reads 0. -/
def snapshotArgs : List Byte → Option (Nat × Nat × Nat)
  | [q] => if q.toNat ≤ 3 then some (q.toNat, 0, 0) else none
  | [q, b] => if q.toNat ≤ 3 && b.toNat ≤ 11 then some (q.toNat, b.toNat, 0) else none
  | [q, b, p] => if q.toNat ≤ 3 && b.toNat ≤ 11 then some (q.toNat, b.toNat, p.toNat) else none
  | _ => none

/-- The capture a request reads: a new one for page 0, block 0, part 0 and when there is none, else the last taken. -/
def State.captureFor (s : State) (page block part : Nat) : List (List Byte) :=
  if page == 0 && block == 0 && part == 0 then s.captureAll
  else
    match s.service.capture with
    | some c => c
    | none => s.captureAll

/-- An allowed SNAPSHOT. -/
def State.serveSnapshot (s : State) (sender : Fin 8) (page block part : Nat) : State :=
  let c := s.captureFor page block part
  State.answer { s with service := { s.service with capture := some c } } sender Request.snapshot.code .ok
    (pageOf (c.getD block []) part page)

/-- Fault code numbers, 1..15. -/
def FaultCode.number : FaultCode → Nat
  | .configBad => 1
  | .coilFail => 2
  | .duplicateStation => 3
  | .demandLost => 4
  | .peerLost => 5
  | .traceBroken => 6
  | .steerTrack => 7
  | .jointSensor => 8
  | .pedalMismatch => 9
  | .pressureSensor => 10
  | .heightSensor => 11
  | .supplySensor => 12
  | .raiseSlow => 13
  | .entranceFault => 14
  | .linkAlone => 15

/-- The six bytes of a position of the list; a position with no record is all 0. -/
def faultBytes : Option FaultRecord → List Byte
  | some r =>
    bytesOf 1 r.code.number ++ bytesOf 1 r.qualifier ++ bytesOf 2 r.firstSeen ++ bytesOf 1 r.count ++
      [if r.active then 3 else 2]
  | none => [0, 0, 0, 0, 0, 0]

/-- An allowed READ_FAULTS: the records at the start index and the next, oldest first. -/
def State.serveReadFaults (s : State) (sender : Fin 8) (start : Nat) : State :=
  s.answer sender Request.readFaults.code .ok
    (faultBytes s.faults.records[start]? ++ faultBytes s.faults.records[start + 1]?)

/-- What CLEAR_FAULTS leaves: the active records in their order. -/
def FaultList.cleared (f : FaultList) : FaultList :=
  { f with
    records := f.records.filter (·.active)
    overflow := false }

/-- An allowed CLEAR_FAULTS. -/
def State.serveClearFaults (s : State) (sender : Fin 8) : State :=
  State.answer { s with faults := s.faults.cleared } sender Request.clearFaults.code .ok []

/-! ## CALIBRATE_HEIGHT (R176) -/

/-- The raw height of a VALID corner. -/
def Corner.rawHeight (c : Corner) : Option Int := if c.height.valid then c.height.value else none

/-- Both raw heights, while the mode, the qualifier and the sensors allow the request (log entry 20). -/
def State.calibration (s : State) : Option (Int × Int) :=
  if s.ladder.mode == .park && s.ladder.qualifier == .standstill then
    match s.levelling.corners.left.rawHeight, s.levelling.corners.right.rawHeight with
    | some l, some r => some (l, r)
    | some _, none => none
    | none, some _ => none
    | none, none => none
  else none

/-- A trim lies within −60..+60 mm. -/
def trimFits (x : Int) : Bool := decide (-60 ≤ x) && decide (x ≤ 60)

/-- Both trims are set. -/
def State.setTrims (s : State) (l r : Int) : State :=
  { s with levelling := { s.levelling with corners :=
      ⟨{ s.levelling.corners.left with trim := l }, { s.levelling.corners.right with trim := r }⟩ } }

/-- The two present trims, as reply data. -/
def State.trimBytes (s : State) : List Byte :=
  signedBytesOf 1 s.levelling.corners.left.trim ++ signedBytesOf 1 s.levelling.corners.right.trim

/-- CALIBRATE_HEIGHT past its length check. -/
def State.serveCalibrate (s : State) (sender : Fin 8) : State :=
  match s.calibration with
  | none => s.answer sender Request.calibrateHeight.code .refusedMode []
  | some (l, r) =>
    if trimFits l && trimFits r then
      (s.setTrims l r).answer sender Request.calibrateHeight.code .ok (s.setTrims l r).trimBytes
    else s.answer sender Request.calibrateHeight.code .refusedRange s.trimBytes

/-! ## COIL_SWEEP and RESTART (R177) -/

/-- COIL_SWEEP past its checks: the sweep starts and the slot waits for its end. -/
def State.serveCoilSweep (s : State) (sender : Fin 8) : State :=
  if s.sweepMayStart && s.ladder.mode == .park then
    State.startSweep { s with service := { s.service with
      slot := .waiting
      sweepFor := some sender } }
  else s.answer sender Request.coilSweep.code .refusedMode []

/-- RESTART past its checks: the OK reply, and the restart armed for when the slot is FREE. -/
def State.serveRestart (s : State) (sender : Fin 8) : State :=
  if s.ladder.mode == .park then
    State.answer { s with service := { s.service with restartArmed := true } } sender Request.restart.code .ok []
  else s.answer sender Request.restart.code .refusedMode []

/-! ## Taking a request -/

/-- The arguments a request allows (R174, R175). -/
def argumentsFit (r : Request) (args : List Byte) : Bool :=
  match r with
  | .snapshot => (snapshotArgs args).isSome
  | .readFaults => args.length == 1 && byteAt args 0 ≤ 15
  | .clearFaults => args.isEmpty
  | .calibrateHeight => args.isEmpty
  | .coilSweep => args.isEmpty
  | .restart => args.isEmpty

/-- What a request does once its arguments are good. -/
def State.carry (s : State) (sender : Fin 8) (r : Request) (args : List Byte) : State :=
  match r with
  | .snapshot =>
    match snapshotArgs args with
    | some (page, block, part) => s.serveSnapshot sender page block part
    | none => s
  | .readFaults => s.serveReadFaults sender (byteAt args 0)
  | .clearFaults => s.serveClearFaults sender
  | .calibrateHeight => s.serveCalibrate sender
  | .coilSweep => s.serveCoilSweep sender
  | .restart => s.serveRestart sender

/-- The requests that are answered while a sweep is RUNNING (R174). -/
def Request.duringSweep : Request → Bool
  | .snapshot => true
  | .readFaults => true
  | .clearFaults => true
  | .calibrateHeight => false
  | .coilSweep => false
  | .restart => false

/-- A request with a known code: BUSY before RANGE before what the request does (R174). A refusal carries no data, but for
R176's (log entry 38). -/
def State.serve (s : State) (sender : Fin 8) (r : Request) (args : List Byte) : State :=
  if s.sweeping && !r.duringSweep then s.answer sender r.code .refusedBusy []
  else if !argumentsFit r args then s.answer sender r.code .refusedRange []
  else s.carry sender r args

/-- A request with an unknown code (R174). -/
def State.serveUnknown (s : State) (sender : Fin 8) (code : Nat) : State :=
  State.answer { s with service := { s.service with unknown := bump s.service.unknown } } sender code .refusedUnknown []

/-- The payload of a SERVICE_REQ is checked and acted on (R174). -/
def State.servePayload (s : State) (sender : Fin 8) : List Byte → State
  | [] => s.answer sender 0 .refusedUnknown []
  | code :: args =>
    match Request.ofCode code.toNat with
    | some r => s.serve sender r args
    | none => s.serveUnknown sender code.toNat

/-- A SERVICE_REQ reaches the service block (R174): discarded to all stations, dropped while the slot is QUEUED. -/
def State.takeRequest (s : State) (addr : Address) (payload : List Byte) : State :=
  match addr.dest with
  | .all => s
  | .station _ =>
    if s.service.slot == .queued then { s with service := { s.service with busyDrop := bump s.service.busyDrop } }
    else s.servePayload addr.sender payload

end Sys2Proof.Machine
end

