-- ==== Sys2Proof/Machine/SlipControl.lean ====
section
/-! DEFINITION. Wheel slip control (R95 to R109): pulses, wheel speeds, the reference, the slip states and targets,
BRAKE_DEGRADED. -/

namespace Sys2Proof.Machine

/-- A wheel replaced. -/
def State.putWheel (s : State) (side : Side) (w : Wheel) : State :=
  { s with slip := { s.slip with wheels := putSide s.slip.wheels w side } }

/-! ## Pulses -/

/-- WHEEL_PULSE (R95): one pulse adds 1 to the wheel's count of the present period and, on the CAB station, to the
trace pulse accumulator (R36). -/
def State.wheelPulse (s : State) (side : Side) (sta : Microvolt) : State :=
  let w := atSide s.slip.wheels side
  (s.putWheel side { w with count := growTo 255 1 w.count }).tracePulse sta

/-! ## Stages 1 to 3 -/

/-- n × 36 / P, toward zero, clamped to 0..1500 (R95). -/
def speedOf (pulses perStep : Nat) : Nat := min 1500 (pulses * 36 / perStep)

/-- The present count joins the window as the newest and the oldest leaves (R95). -/
def Wheel.closeWindow (w : Wheel) (perStep : Nat) : Wheel :=
  let window := (w.count :: w.window).take 10
  { w with window, count := 0, speed := speedOf window.sum perStep }

/-- Stage 1. -/
def State.closeWindows (s : State) : State :=
  { s with slip := { s.slip with wheels :=
      ⟨s.slip.wheels.left.closeWindow s.cfg.pulsesPerStep, s.slip.wheels.right.closeWindow s.cfg.pulsesPerStep⟩ } }

/-- The greatest speed of the FRESH peers, 0 when there is none (R99). -/
def State.peerTopSpeed (s : State) : Nat := (s.peerNumbers.filterMap s.peerSpeed).foldl max 0

/-- The reference speed of this period (R99). -/
def State.referenceNow (s : State) : Nat :=
  max (max s.slip.wheels.left.speed s.slip.wheels.right.speed) (max s.peerTopSpeed (s.slip.vref - 5))

/-- (v_ref − v_w) × 1000 / v_ref, toward zero; not computed at v_ref 0 (R100). -/
def slipOf (vref speed : Nat) : Option Nat := if vref == 0 then none else some ((vref - speed) * 1000 / vref)

/-- Stages 2 and 3. -/
def State.measureSlip (s : State) : State :=
  let v := s.referenceNow
  { s with slip :=
      { vref := v
        wheels := ⟨{ s.slip.wheels.left with slip := slipOf v s.slip.wheels.left.speed },
          { s.slip.wheels.right with slip := slipOf v s.slip.wheels.right.speed }⟩ } }

/-! ## Stages 4 and 5: one wheel -/

/-- Forced to OFF (R101). -/
def State.forcedOff (s : State) (side : Side) : Bool :=
  s.slip.vref < 30 || atSide s.brake.cause side != .none || s.brake.state == .passthrough || s.ladder.mode == .backup

/-- The wheel is OFF, with p_req as its target (R101). -/
def Wheel.toOff (w : Wheel) (pReq : Nat) : Wheel :=
  { w with state := .off, reapply := false, grip := 0, target := pReq }

/-- The edge to DUMP, and a period in DUMP: the target falls by 40, floor 0 (R103, R104, R105). -/
def Wheel.toDump (w : Wheel) (pReq : Nat) : Wheel :=
  { w with state := .dump, reapply := false, grip := 0, target := min (w.target - 40) pReq }

/-- The edge to HOLD: the held value is this period's target (R103, R105). -/
def Wheel.toHold (w : Wheel) (pReq : Nat) : Wheel :=
  { w with state := .hold, reapply := false, grip := 0, held := min w.target pReq, target := min w.target pReq }

/-- A period in HOLD: the held value follows p_req down (R104). -/
def Wheel.stayHold (w : Wheel) (pReq grip : Nat) : Wheel :=
  { w with grip, held := min w.held pReq, target := min w.held pReq }

/-- A period in APPLY on the ramp: +20, and the flag clears at p_req (R106). -/
def Wheel.ramp (w : Wheel) (pReq : Nat) : Wheel :=
  { w with state := .apply, grip := 0, reapply := min (w.target + 20) pReq != pReq, target := min (w.target + 20) pReq }

/-- A period in APPLY without the flag: the target is p_req (R102). -/
def Wheel.follow (w : Wheel) (pReq : Nat) : Wheel :=
  { w with state := .apply, reapply := false, target := pReq }

/-- HOLD with slip below 40: the grip count, and APPLY reapplying at 3 (R104). -/
def Wheel.countGrip (w : Wheel) (pReq : Nat) : Wheel :=
  if w.grip + 1 < 3 then w.stayHold pReq (w.grip + 1) else w.ramp pReq

/-- Stages 4 and 5 for one wheel that is not forced to OFF (R102 to R106); `slip` is this period's. -/
def Wheel.act (w : Wheel) (slip pReq : Nat) : Wheel :=
  match w.state with
  | .off => w.follow pReq
  | .apply =>
    if 150 ≤ slip then w.toDump pReq
    else if 80 ≤ slip then w.toHold pReq
    else if w.reapply then w.ramp pReq
    else w.follow pReq
  | .hold =>
    if 150 ≤ slip then w.toDump pReq
    else if 40 ≤ slip then w.stayHold pReq 0
    else w.countGrip pReq
  | .dump => if slip < 80 then w.toHold pReq else w.toDump pReq

/-- Stages 4 and 5 for one wheel (R98). -/
def State.actWheel (s : State) (side : Side) : State :=
  let w := atSide s.slip.wheels side
  s.putWheel side (if s.forcedOff side then w.toOff s.brake.pReq else w.act (w.slip.getD 0) s.brake.pReq)

/-! ## Stage 6: BRAKE_DEGRADED -/

/-- In DUMP with slip at 150 or more (R108). -/
def Wheel.locking (w : Wheel) : Bool := w.state == .dump && 150 ≤ w.slip.getD 0

/-- The lock count and the degraded flag (R108). -/
def State.countLock (s : State) (side : Side) : State :=
  let w := atSide s.slip.wheels side
  if w.locking then
    if growTo 100 1 w.lock == 100 && !w.degraded then
      State.offerAlert (s.putWheel side { w with lock := 100, degraded := true, alertTimer := 20 }) .brakeDegraded
        (sideNumber side)
    else s.putWheel side { w with lock := growTo 100 1 w.lock }
  else s.putWheel side { w with lock := 0, degraded := false, alertTimer := 0 }

/-- SLIP_PERIOD (R98), the left wheel's alert queued before the right wheel's (log entry 34): before the configuration only
the wheel speeds are measured (R95, R97). -/
def State.slipPeriod (s : State) : State :=
  if s.loaded then
    ((((s.closeWindows).measureSlip.actWheel .left).actWheel .right).countLock .left).countLock .right
  else s.closeWindows

/-! ## Meanings -/

/-- WHEEL_PULSE, R95. -/
def execWheelPulse (side : Side) (sta : Microvolt) (s : State) : Host.Outcome State Fault Refusal :=
  .next (s.wheelPulse side sta)

/-- SLIP_PERIOD, R98. -/
def execSlipPeriod (s : State) : Host.Outcome State Fault Refusal := .next s.slipPeriod

/-- The third period of grip in HOLD is due (R104). -/
def State.gripDue (s : State) (side : Side) : Bool :=
  s.loaded && !s.forcedOff side && (atSide s.slip.wheels side).state == .hold &&
    (atSide s.slip.wheels side).slip.any (fun x => decide (x < 40)) && 3 ≤ (atSide s.slip.wheels side).grip + 1

/-- GRIP_REAPPLY, R104: the count that reaches 3. -/
def execGripReapply (side : Side) (s : State) : Host.Outcome State Fault Refusal :=
  .next (if s.gripDue side then s.putWheel side ((atSide s.slip.wheels side).countGrip s.brake.pReq) else s)

/-- The lock count that reaches 100 is due (R108). -/
def State.degradedDue (s : State) (side : Side) : Bool :=
  s.loaded && (atSide s.slip.wheels side).locking && !(atSide s.slip.wheels side).degraded &&
    100 ≤ (atSide s.slip.wheels side).lock + 1

/-- BRAKE_DEGRADED, R108: the count that reaches 100. -/
def execBrakeDegraded (side : Side) (s : State) : Host.Outcome State Fault Refusal :=
  .next (if s.degradedDue side then s.countLock side else s)

/-- The BRAKE_DEGRADED alert timer has expired while the flag is set (R108). -/
def State.degradedRepeatDue (s : State) (side : Side) : Bool :=
  (atSide s.slip.wheels side).degraded && (atSide s.slip.wheels side).alertTimer == 0

/-- BRAKE_DEGRADED_REPEAT, R108. -/
def execBrakeDegradedRepeat (side : Side) (s : State) : Host.Outcome State Fault Refusal :=
  .next (if s.degradedRepeatDue side then
    State.offerAlert (s.putWheel side { (atSide s.slip.wheels side) with alertTimer := 20 }) .brakeDegraded (sideNumber side)
    else s)

end Sys2Proof.Machine
end

