-- ==== Sys2Proof/Machine/Reception.lean ====
section
/-! DEFINITION. Reception (R152, R153), screening and routing (R20), the service shed check (R159), and the commands
that are frames from the link. -/

namespace Sys2Proof.Machine

/-! ## Screening -/

/-- A counter of the peer view raised. -/
def State.countStranger (s : State) : State :=
  { s with peerView := { s.peerView with stranger := bump s.peerView.stranger } }

/-- A DEMAND from a station that is not the cab station (R20). -/
def State.countForeignDemand (s : State) : State :=
  { s with peerView := { s.peerView with foreignDemand := bump s.peerView.foreignDemand } }

/-- A TRACE from a station that is not the cab station (R20). -/
def State.countForeignTrace (s : State) : State :=
  { s with peerView := { s.peerView with foreignTrace := bump s.peerView.foreignTrace } }

/-- A SERVICE_REQ past screening: shed while the flag is set, else the service block's (R159). -/
def State.routeRequest (s : State) (addr : Address) (payload : List Byte) : State :=
  if s.link.shed then { s with link := { s.link with serviceShed := bump s.link.serviceShed } }
  else s.takeRequest addr payload

/-- A frame to this station or to all: the sender check of DEMAND and TRACE, then routing (R20, steps 4 and 5). -/
def State.route (s : State) (k : Kind) (addr : Address) (payload : List Byte) : State :=
  match k with
  | .state => s.takeState addr.sender payload
  | .demand => if addr.sender == s.cfg.cabStation then s.takeDemand payload else s.countForeignDemand
  | .alert => s.takeAlert addr.sender payload
  | .trace => if addr.sender == s.cfg.cabStation then s.takeTrace payload else s.countForeignTrace
  | .serviceReq => s.routeRequest addr payload
  | .serviceReply => s

/-- The destination is the own number or all stations. -/
def State.forUs (s : State) (d : Dest) : Bool :=
  match d with
  | .all => true
  | .station n => n == s.own

/-- The sender is in the present mask. -/
def State.present (s : State) (n : Fin 8) : Bool := s.cfg.present.getLsbD n.val

/-- Screening, in its order (R20). -/
def State.screen (s : State) (k : Kind) (addr : Address) (payload : List Byte) : State :=
  if addr.sender == s.own then s.duplicateHeard
  else if k != .serviceReq && !s.present addr.sender then s.countStranger
  else if !s.forUs addr.dest then s
  else s.route k addr payload

/-! ## Reception -/

/-- The check is right: the ack slot is driven unless listen-only (R153), and the frame has broken the run of recessive
bits (log entry 22). -/
def State.acknowledge (s : State) : State :=
  { s with link := { s.link with
      ackDriven := !s.link.listenOnly
      recessive := 0 } }

/-- A frame received complete with a good header (R148, R152): discarded before the configuration is held, else counted
and screened (log entry 21). -/
def State.accept (s : State) (k : Kind) (addr : Address) (payload : List Byte) : State :=
  if s.loaded then
    State.screen { s with link := { s.link with received := bump s.link.received } } k addr payload
  else s

/-- The destination a field names, for the values R152 takes. -/
def destOfNumber (n : Nat) : Dest := if h : n < 8 then .station ⟨n, h⟩ else .all

/-- A frame with a right check (R152): acknowledged, then rejected for its header or accepted. A length above 14 is a
format error. -/
def State.receive (s : State) (h : RawHead) (payload : List Byte) : State :=
  if payload.length ≤ 14 then
    match Kind.ofCode h.kind.val with
    | some k =>
      if headGood h then s.acknowledge.accept k ⟨h.sender, destOfNumber h.dest.val⟩ payload
      else { s.acknowledge with link := { s.acknowledge.link with rejected := bump s.link.rejected } }
    | none => { s.acknowledge with link := { s.acknowledge.link with rejected := bump s.link.rejected } }
  else { s with link := s.link.formatError }

/-- The header of a good frame of a kind. -/
def goodHead (k : Kind) (cls : Fin 4) (addr : Address) : RawHead where
  kind := Fin.ofNat 16 k.code
  cls
  parity := kindParity k.code
  sender := addr.sender
  dest := Fin.ofNat 16 (destNumber addr.dest)

/-- A SERVICE_REQ frame. -/
def State.receiveRequest (s : State) (addr : Address) (payload : List Byte) : State :=
  s.receive (goodHead .serviceReq 3 addr) payload

/-! ## Meanings -/

/-- STATE_FRAME, R22: in class 2, or class 1 when its sender has promoted it. -/
def execStateFrame (promoted : Bool) (addr : Address) (payload : List Byte) (s : State) :
    Host.Outcome State Fault Refusal :=
  .next (s.receive (goodHead .state (if promoted then 1 else 2) addr) payload)

/-- DEMAND_FRAME, R27. -/
def execDemandFrame (addr : Address) (payload : List Byte) (s : State) : Host.Outcome State Fault Refusal :=
  .next (s.receive (goodHead .demand 1 addr) payload)

/-- ALERT_FRAME, R31. -/
def execAlertFrame (addr : Address) (payload : List Byte) (s : State) : Host.Outcome State Fault Refusal :=
  .next (s.receive (goodHead .alert 0 addr) payload)

/-- TRACE_FRAME, R43. -/
def execTraceFrame (addr : Address) (payload : List Byte) (s : State) : Host.Outcome State Fault Refusal :=
  .next (s.receive (goodHead .trace 1 addr) payload)

/-- SERVICE_REPLY_FRAME, R20: past screening it goes to no block. -/
def execServiceReplyFrame (addr : Address) (payload : List Byte) (s : State) : Host.Outcome State Fault Refusal :=
  .next (s.receive (goodHead .serviceReply 3 addr) payload)

/-- FRAME_REJECTED, R152: the fields as they were read. -/
def execFrameRejected (head : RawHead) (payload : List Byte) (s : State) : Host.Outcome State Fault Refusal :=
  .next (s.receive head payload)

/-- SNAPSHOT, R175. -/
def execSnapshot (addr : Address) (args : List Byte) (s : State) : Host.Outcome State Fault Refusal :=
  .next (s.receiveRequest addr (BitVec.ofNat 8 Request.snapshot.code :: args))

/-- READ_FAULTS, R175. -/
def execReadFaults (addr : Address) (args : List Byte) (s : State) : Host.Outcome State Fault Refusal :=
  .next (s.receiveRequest addr (BitVec.ofNat 8 Request.readFaults.code :: args))

/-- CLEAR_FAULTS, R175. -/
def execClearFaults (addr : Address) (args : List Byte) (s : State) : Host.Outcome State Fault Refusal :=
  .next (s.receiveRequest addr (BitVec.ofNat 8 Request.clearFaults.code :: args))

/-- CALIBRATE_HEIGHT, R176. -/
def execCalibrateHeight (addr : Address) (args : List Byte) (s : State) : Host.Outcome State Fault Refusal :=
  .next (s.receiveRequest addr (BitVec.ofNat 8 Request.calibrateHeight.code :: args))

/-- COIL_SWEEP, R177. -/
def execCoilSweep (addr : Address) (args : List Byte) (s : State) : Host.Outcome State Fault Refusal :=
  .next (s.receiveRequest addr (BitVec.ofNat 8 Request.coilSweep.code :: args))

/-- RESTART, R177. -/
def execRestart (addr : Address) (args : List Byte) (s : State) : Host.Outcome State Fault Refusal :=
  .next (s.receiveRequest addr (BitVec.ofNat 8 Request.restart.code :: args))

/-- UNKNOWN_REQUEST, R174: the whole payload as it arrives. -/
def execUnknownRequest (addr : Address) (payload : List Byte) (s : State) : Host.Outcome State Fault Refusal :=
  .next (s.receiveRequest addr payload)

end Sys2Proof.Machine
end

