-- ==== Sys2Proof/Machine/Clock.lean ====
section
/-! DEFINITION. The passing of time. The table has no row for a tick: with no command waiting, a step lets one
millisecond pass and puts the timers and limits that have then fallen due into the queue (log entry 2). The blocks'
10 ms periods, the sweep's steps and the DEMAND computation take readings from outside, and come from the sender (log entry
8). -/

namespace Sys2Proof.Machine

/-! ## One millisecond -/

/-- The entries of the peers grow older (R23). -/
def State.agePeers (s : State) : Vector Peer 8 :=
  Vector.ofFn fun n => if s.isPeer n then { s.peer n with age := bump (s.peer n).age } else s.peer n

/-- The peer view's ages (R23, R28, R32). -/
def State.agePeerView (s : State) : PeerView :=
  { s.peerView with
    peers := s.agePeers
    demand := { s.peerView.demand with age := bump s.peerView.demand.age }
    alerts := s.peerView.alerts.map fun a => { a with age := bump a.age } }

/-- The start-up timer runs in START (R8). -/
def Ladder.pass (l : Ladder) : Ladder :=
  if l.mode == .start then { l with startupTimer := bump l.startupTimer } else l

/-- The times to the next joint alerts (R70). -/
def Joint.pass (j : Joint) : Joint :=
  { j with
    jackTimer := j.jackTimer - 1
    limitTimer := j.limitTimer - 1 }

/-- The time to a wheel's next alert (R108). -/
def Wheel.pass (w : Wheel) : Wheel := { w with alertTimer := w.alertTimer - 1 }

/-- The time to an entrance's next alert (R139). -/
def Entrance.pass (e : Entrance) : Entrance := { e with alertTimer := e.alertTimer - 1 }

/-- The DEMAND timer (R144) and the entrances' alert timers. -/
def State.passInterlock (s : State) : Interlock :=
  { s.interlock with
    records := ⟨s.interlock.records.zero.map Entrance.pass, s.interlock.records.one.map Entrance.pass⟩
    demandTimer := if s.isCab then s.interlock.demandTimer - 1 else s.interlock.demandTimer }

/-- The STATE timer (R160, R161) and the times in the queue (R158, R162). -/
def State.passLink (s : State) : Link :=
  { s.link with
    stateTimer := if s.loaded && !s.link.listenOnly then s.link.stateTimer - 1 else s.link.stateTimer
    queue := s.link.queue.map fun e => { e with time := bump e.time } }

/-- One millisecond passes. -/
def State.pass (s : State) : State :=
  { s with
    peerView := s.agePeerView
    ladder := s.ladder.pass
    joint := s.joint.pass
    steering := { s.steering with alertTimer := s.steering.alertTimer - 1 }
    slip := { s.slip with wheels := ⟨s.slip.wheels.left.pass, s.slip.wheels.right.pass⟩ }
    interlock := s.passInterlock
    link := s.passLink
    faults := { s.faults with millis := s.faults.millis + 1 } }

/-! ## What has fallen due -/

/-- A command when its condition holds. -/
def dueIf (cond : Bool) (c : Instr) : List Instr := if cond then [c] else []

/-- The limits of one peer entry (R23). -/
def State.duePeer (s : State) (n : Fin 8) : List Instr :=
  dueIf (s.peerStaleDue n && !s.peerLostDue n) (.peerStale n) ++ dueIf (s.peerLostDue n) (.peerLost n) ++
    dueIf (s.peerAbsentDue n) (.peerAbsentLimit n)

/-- The limits of the peer view (R23, R28, R32). -/
def State.duePeerView (s : State) : List Instr :=
  (List.finRange 8).flatMap s.duePeer ++ dueIf (s.demandStaleDue && !s.demandLostDue) .demandStale ++
    dueIf s.demandLostDue .demandLost ++ dueIf s.demandAbsentDue .demandAbsentLimit ++
    (s.peerView.alerts.filter AlertEntry.expired).map fun a => .alertExpiry a.code a.qualifier a.sender

/-- The start-up's limits (R8, R166). -/
def State.dueStartUp (s : State) : List Instr :=
  dueIf (s.neverHeard && !s.ladder.noDemandCause) .startupTimerLimit ++ dueIf s.choiceDue .sweepOrSkip

/-- The alert repeats (R56, R70, R108, R139). -/
def State.dueAlerts (s : State) : List Instr :=
  dueIf s.jackknifeRepeatDue .jackknifeAlertRepeat ++ dueIf s.limitRepeatDue .jointLimitAlertRepeat ++
    dueIf s.pinnedRepeatDue .steerPinnedRepeat ++ dueIf (s.degradedRepeatDue .left) (.brakeDegradedRepeat .left) ++
    dueIf (s.degradedRepeatDue .right) (.brakeDegradedRepeat .right) ++
    dueIf (s.breachRepeatDue .zero) (.entranceBreachRepeat .zero) ++
    dueIf (s.breachRepeatDue .one) (.entranceBreachRepeat .one)

/-- A frame may start on a link that has been idle (R149, R155). -/
def State.idleDue (s : State) : Bool := s.link.recessive == 8 && s.link.maySend

/-- The link's timers, the seconds, an armed restart, and a start on the idle link (R155, R158, R161, R172, R177). -/
def State.dueLink (s : State) : List Instr :=
  dueIf (s.link.queue.any Entry.promotionDue) .statePromotion ++ dueIf s.stateTimerDue .stateTimer ++
    dueIf s.secondDue .secondsTick ++ dueIf s.restartDue (.serviceRestart s.startUp.pins) ++ dueIf s.idleDue .linkIdle

/-- Every command that has fallen due, in a fixed order (log entry 29). -/
def State.dueNow (s : State) : List Instr := s.duePeerView ++ s.dueStartUp ++ s.dueAlerts ++ s.dueLink

/-- What a step does with no command waiting: what has fallen due joins the queue; when nothing has, a millisecond
passes first. -/
def State.tick (s : State) : State :=
  let t := if s.dueNow.isEmpty then s.pass else s
  { t with pending := t.dueNow }

end Sys2Proof.Machine
end

