-- ==== Sys2Proof/Machine/Dispatch.lean ====
section
/-! DEFINITION. One arm per command: what it does to everything but the queue of waiting commands. -/

namespace Sys2Proof.Machine

/-- The effect of a command. -/
def exec (i : Instr) (s : State) : Host.Outcome State Fault Refusal :=
  match i with
  | .powerOnReset pins => Sys2Proof.Machine.execPowerOnReset pins s
  | .serviceRestart pins => Sys2Proof.Machine.execServiceRestart pins s
  | .configurationImageRead image => Sys2Proof.Machine.execConfigurationImageRead image s
  | .sweepOrSkip => Sys2Proof.Machine.execSweepOrSkip s
  | .sweepStep feedback => Sys2Proof.Machine.execSweepStep feedback s
  | .ladderPeriod => Sys2Proof.Machine.execLadderPeriod s
  | .stillTimerFull => Sys2Proof.Machine.execStillTimerFull s
  | .startupTimerLimit => Sys2Proof.Machine.execStartupTimerLimit s
  | .recoveryTimerFull => Sys2Proof.Machine.execRecoveryTimerFull s
  | .stateFrame promoted addr payload => Sys2Proof.Machine.execStateFrame promoted addr payload s
  | .demandFrame addr payload => Sys2Proof.Machine.execDemandFrame addr payload s
  | .alertFrame addr payload => Sys2Proof.Machine.execAlertFrame addr payload s
  | .traceFrame addr payload => Sys2Proof.Machine.execTraceFrame addr payload s
  | .rejectionRunBreak index kappa => Sys2Proof.Machine.execRejectionRunBreak index kappa s
  | .serviceReplyFrame addr payload => Sys2Proof.Machine.execServiceReplyFrame addr payload s
  | .frameCheckError => Sys2Proof.Machine.execFrameCheckError s
  | .frameFormatError => Sys2Proof.Machine.execFrameFormatError s
  | .frameRejected head payload => Sys2Proof.Machine.execFrameRejected head payload s
  | .peerStale n => Sys2Proof.Machine.execPeerStale n s
  | .peerLost n => Sys2Proof.Machine.execPeerLost n s
  | .peerAbsentLimit n => Sys2Proof.Machine.execPeerAbsentLimit n s
  | .demandStale => Sys2Proof.Machine.execDemandStale s
  | .demandLost => Sys2Proof.Machine.execDemandLost s
  | .demandAbsentLimit => Sys2Proof.Machine.execDemandAbsentLimit s
  | .alertExpiry code qualifier sender => Sys2Proof.Machine.execAlertExpiry code qualifier sender s
  | .wheelPulse side sta => Sys2Proof.Machine.execWheelPulse side sta s
  | .pathStep sta => Sys2Proof.Machine.execPathStep sta s
  | .trackerPeriod => Sys2Proof.Machine.execTrackerPeriod s
  | .steeringPeriod sta => Sys2Proof.Machine.execSteeringPeriod sta s
  | .trackingFault => Sys2Proof.Machine.execTrackingFault s
  | .steerPinnedRepeat => Sys2Proof.Machine.execSteerPinnedRepeat s
  | .jointPeriod jnt => Sys2Proof.Machine.execJointPeriod jnt s
  | .jointSensorRecovery jnt => Sys2Proof.Machine.execJointSensorRecovery jnt s
  | .jackknifeSet => Sys2Proof.Machine.execJackknifeSet s
  | .jackknifeClear => Sys2Proof.Machine.execJackknifeClear s
  | .jackknifeAlertRepeat => Sys2Proof.Machine.execJackknifeAlertRepeat s
  | .jointLimitAlertRepeat => Sys2Proof.Machine.execJointLimitAlertRepeat s
  | .brakePeriod chambers pedals => Sys2Proof.Machine.execBrakePeriod chambers pedals s
  | .chamberSensorRecovery side level => Sys2Proof.Machine.execChamberSensorRecovery side level s
  | .slipPeriod => Sys2Proof.Machine.execSlipPeriod s
  | .gripReapply side => Sys2Proof.Machine.execGripReapply side s
  | .brakeDegraded side => Sys2Proof.Machine.execBrakeDegraded side s
  | .brakeDegradedRepeat side => Sys2Proof.Machine.execBrakeDegradedRepeat side s
  | .levellingPeriod readings => Sys2Proof.Machine.execLevellingPeriod readings s
  | .airWindowStart => Sys2Proof.Machine.execAirWindowStart s
  | .cornerLocked side => Sys2Proof.Machine.execCornerLocked side s
  | .outOfBandLimit side => Sys2Proof.Machine.execOutOfBandLimit side s
  | .heightSensorRecovery side level => Sys2Proof.Machine.execHeightSensorRecovery side level s
  | .bellowsSensorRecovery side level => Sys2Proof.Machine.execBellowsSensorRecovery side level s
  | .supplySensorRecovery level => Sys2Proof.Machine.execSupplySensorRecovery level s
  | .raiseSlow => Sys2Proof.Machine.execRaiseSlow s
  | .entrancePeriod inputs => Sys2Proof.Machine.execEntrancePeriod inputs s
  | .lockTimeout slot => Sys2Proof.Machine.execLockTimeout slot s
  | .closeTimeout slot => Sys2Proof.Machine.execCloseTimeout slot s
  | .reopeningDone slot => Sys2Proof.Machine.execReopeningDone slot s
  | .entranceBreachRepeat slot => Sys2Proof.Machine.execEntranceBreachRepeat slot s
  | .demandComputation switches => Sys2Proof.Machine.execDemandComputation switches s
  | .linkIdle => Sys2Proof.Machine.execLinkIdle s
  | .arbitrationLost => Sys2Proof.Machine.execArbitrationLost s
  | .sendBitError => Sys2Proof.Machine.execSendBitError s
  | .frameSent acked => Sys2Proof.Machine.execFrameSent acked s
  | .linkAlone => Sys2Proof.Machine.execLinkAlone s
  | .stateTimer => Sys2Proof.Machine.execStateTimer s
  | .statePromotion => Sys2Proof.Machine.execStatePromotion s
  | .secondsTick => Sys2Proof.Machine.execSecondsTick s
  | .snapshot addr args => Sys2Proof.Machine.execSnapshot addr args s
  | .readFaults addr args => Sys2Proof.Machine.execReadFaults addr args s
  | .clearFaults addr args => Sys2Proof.Machine.execClearFaults addr args s
  | .calibrateHeight addr args => Sys2Proof.Machine.execCalibrateHeight addr args s
  | .coilSweep addr args => Sys2Proof.Machine.execCoilSweep addr args s
  | .restart addr args => Sys2Proof.Machine.execRestart addr args s
  | .unknownRequest addr payload => Sys2Proof.Machine.execUnknownRequest addr payload s

end Sys2Proof.Machine
end

