-- ==== Sys2Proof/Safety.lean ====
section
/-! DEFINITION. What a sound state of the part is, in the terms the statements use: one predicate for each rule of the
manual that speaks of the whole machine. Each is meant to be kept by every step. -/

namespace Sys2Proof.Machine

/-- How many entries of a kind the queue holds. -/
def countKind (k : Kind) (queue : List Entry) : Nat := (queue.filter (fun e => e.kind == k)).length

/-- Two alerts of the queue differ in code or qualifier, which are an alert's whole payload. -/
def Entry.distinctAlert (a b : Entry) : Prop := a.kind = .alert → b.kind = .alert → a.payload ≠ b.payload

/-- The transmit queue (R155, R156): at most eight entries with at most one in flight; never more than one STATE, one
DEMAND or one SERVICE_REPLY, nor two ALERT entries with the same code and qualifier, nor more than four TRACE entries;
each in a class the frame table gives its kind. A frame held aside is a STATE, DEMAND or ALERT, in the class of its kind,
whose matching entry is in flight. -/
structure Link.QueueOk (l : Link) : Prop where
  depth : l.queue.length ≤ 8
  oneInFlight : (l.queue.filter (fun e => e.inFlight)).length ≤ 1
  oneState : countKind .state l.queue ≤ 1
  oneDemand : countKind .demand l.queue ≤ 1
  oneReply : countKind .serviceReply l.queue ≤ 1
  fourTraces : countKind .trace l.queue ≤ 4
  alertsDiffer : l.queue.Pairwise Entry.distinctAlert
  classes : ∀ e ∈ l.queue, e.cls = e.kind.cls ∨ (e.kind = .state ∧ e.cls = 1)
  heldMatches : ∀ h, l.held = some h → (h.kind = .state ∨ h.kind = .demand ∨ h.kind = .alert) ∧ h.cls = h.kind.cls ∧
    ∃ e ∈ l.queue, e.inFlight = true ∧ h.twin e = true

/-- The queue is sound, and a reply in the queue is the one the reply slot speaks of (R156, R174). -/
structure State.LinkOk (s : State) : Prop where
  queue : s.link.QueueOk
  slot : 0 < countKind .serviceReply s.link.queue → s.service.slot = .queued

/-- The path queue (R42, R44 and the text before R41): at most 256 entries, consecutive indices, curvatures within
−1000..+1000; a rejection run that reaches 8 is a break (R46). -/
structure Tracker.PathOk (t : Tracker) : Prop where
  depth : t.queue.length ≤ 256
  consecutive : t.queue.IsChain fun a b => b.index = a.index + 1
  curvature : ∀ e ∈ t.queue, -1000 ≤ e.kappa ∧ e.kappa ≤ 1000
  run : t.rejectionRun ≤ 7

/-- The remote alert set holds up to sixteen entries, no two with the same code, qualifier and sender (R31). -/
structure PeerView.AlertsOk (p : PeerView) : Prop where
  depth : p.alerts.length ≤ 16
  distinct : p.alerts.Pairwise fun a b => ¬(a.code = b.code ∧ a.qualifier = b.qualifier ∧ a.sender = b.sender)

/-- The fault list holds up to sixteen records, no two with the same code and qualifier, each with a count of 1..255
(R171 and the text before it). -/
structure FaultList.ListOk (f : FaultList) : Prop where
  depth : f.records.length ≤ 16
  distinct : f.records.Pairwise fun a b => ¬(a.code = b.code ∧ a.qualifier = b.qualifier)
  counts : ∀ r ∈ f.records, 1 ≤ r.count ∧ r.count ≤ 255

/-- The steer command and the path steer angle stay within max lock (R57, R59); both are 0 until the configuration is
held (R51). -/
structure State.SteerOk (s : State) : Prop where
  command : s.steering.command.natAbs ≤ s.cfg.maxLock
  angle : s.steering.dp.natAbs ≤ s.cfg.maxLock
  unloaded : s.loaded = false → s.steering.command = 0 ∧ s.steering.dp = 0

/-- A coil sweep runs only in START or PARK, at standstill, with D = 0, with the record not LOST and every own entrance
LOCKED, on a good configuration (R167, R169). While it runs the brake block drives no modulator (R82), both levelling
valves are recorded as CLOSED (R117), the lock valve and the bridge are off and the tracking counter is 0 (R55, R61). -/
structure State.SweepOk (s : State) : Prop where
  conditions : s.sweeping = true → s.sweepMayRun = true
  config : s.sweeping = true → s.startUp.status = .good
  brakes : s.sweeping = true → s.brake.driving = false
  valves : s.sweeping = true → s.valvesClosed = true
  steering : s.sweeping = true →
    s.steering.lockOn = false ∧ s.steering.actP = false ∧ s.steering.actN = false ∧ s.steering.tracking = 0

/-- Before the configuration is held no DEMAND is known, start-up is not done, no sweep runs, and the mode is START or
BACKUP (R8, R16, R148, R166). -/
structure State.Waiting (s : State) : Prop where
  demand : s.demandFreshness = .absent
  done : s.startUp.done = false
  sweep : s.sweeping = false
  mode : s.ladder.mode = .start ∨ s.ladder.mode = .backup

/-- In DRIVE and in RAISE no own entrance is RELEASED, OPEN, CLOSING or OBSTRUCTED (R7, R11, R13, R134). -/
structure State.DoorsOk (s : State) : Prop where
  waiting : s.loaded = false → s.Waiting
  shut : s.ladder.mode = .drive ∨ s.ladder.mode = .raise → s.noneOpen = true

/-- While any own entrance is RELEASED, OPEN, CLOSING or OBSTRUCTED, the stop-brake valve is energised (R141). -/
def State.ValveOk (s : State) : Prop := s.someEntrance Entrance.isOpenish = true → s.interlock.valve = true

/-- No more slices are used than the window limit, which starts at the share and is only lowered (R126). -/
structure Levelling.SlicesOk (l : Levelling) : Prop where
  used : l.used ≤ l.limit
  limit : l.limit ≤ l.share

/-! ## Terms of the statements: numbers and levels -/

/-- `x` is `n / d` rounded half away from zero (00_scope.md, Arithmetic and rounding). -/
def RoundsTo (n : Int) (d : Nat) (x : Int) : Prop :=
  (0 ≤ n → 2 * (d * x) ≤ 2 * n + d ∧ 2 * n + d < 2 * (d * (x + 1))) ∧
  (n < 0 → 2 * (d * -x) ≤ d - 2 * n ∧ d - 2 * n < 2 * (d * (1 - x)))

/-- A level converts to `x`: `atZero` microvolts are 0, each volt is `perVolt`, rounded half away from zero. -/
def Converts (v : Microvolt) (atZero perVolt : Nat) (x : Int) : Prop :=
  RoundsTo (perVolt * ((v : Int) - atZero)) 1000000 x

/-- STA: 2.5 V is 0, each volt 3000 cd, valid within 0.5..4.5 V and −4500..+4500 cd (R39, R54). -/
def SteerReads (v : Microvolt) : Prop :=
  ∃ a, Converts v 2500000 3000 a ∧
    steerReading v = if 500000 ≤ v ∧ v ≤ 4500000 ∧ -4500 ≤ a ∧ a ≤ 4500 then some a else none

/-- JNT: 2.5 V is 0, each volt 3000 cd, valid within 0.5..4.5 V (R63). -/
def JointReads (v : Microvolt) : Prop :=
  ∃ a, Converts v 2500000 3000 a ∧ jointReading v = if 500000 ≤ v ∧ v ≤ 4500000 then some a else none

/-- HGT: 2.5 V is 0 mm, each volt 75 mm, valid within 0.5..4.5 V (R110). -/
def HeightReads (v : Microvolt) : Prop :=
  ∃ a, Converts v 2500000 75 a ∧ heightReading v = if 500000 ≤ v ∧ v ≤ 4500000 then some a else none

/-- PCH: 0.5 V is 0 kPa, each volt 300 kPa, valid within 0.5..4.5 V (R81). -/
def ChamberReads (v : Microvolt) : Prop :=
  ∃ a, Converts v 500000 300 a ∧ chamberReading v = if 500000 ≤ v ∧ v ≤ 4500000 then some a.toNat else none

/-- PBL: 0.5 V is 0 kPa, each volt 250 kPa, valid within 0.5..4.5 V (R118). -/
def BellowsReads (v : Microvolt) : Prop :=
  ∃ a, Converts v 500000 250 a ∧ bellowsReading v = if 500000 ≤ v ∧ v ≤ 4500000 then some a.toNat else none

/-- PSUP: 0.5 V is 0 kPa, each volt 320 kPa, at most 1270, valid within 0.5..4.5 V (R122). -/
def SupplyReads (v : Microvolt) : Prop :=
  ∃ a, Converts v 500000 320 a ∧
    supplyReading v = if 500000 ≤ v ∧ v ≤ 4500000 then some (min 1270 a.toNat) else none

/-- The `w` low bits of a number, most significant first, as fields stand on the wires (R151). -/
def msbFirst (w x : Nat) : List Bool := (List.range w).map fun i => x.testBit (w - 1 - i)

/-! ## Terms of the statements: time -/

/-- The commands that time alone makes due, each under its condition (R8, R23, R28, R32, R56, R70, R108, R139, R155, R158,
R161, R166, R172, R177); every other command comes from outside (log entries 2, 5 and 8). -/
def State.Due (s : State) : Instr → Prop
  | .peerStale n => s.isPeer n = true ∧ (s.peer n).freshness = .fresh ∧ 60 < (s.peer n).age ∧ (s.peer n).age ≤ 200
  | .peerLost n => s.isPeer n = true ∧ ((s.peer n).freshness = .fresh ∨ (s.peer n).freshness = .stale) ∧
      200 < (s.peer n).age
  | .peerAbsentLimit n => s.loaded = true ∧ s.isPeer n = true ∧ (s.peer n).freshness = .absent ∧ 2000 < (s.peer n).age ∧
      (s.peer n).limitReported = false
  | .demandStale => s.demandFreshness = .fresh ∧ 30 < s.peerView.demand.age ∧ s.peerView.demand.age ≤ 100
  | .demandLost => (s.demandFreshness = .fresh ∨ s.demandFreshness = .stale) ∧ 100 < s.peerView.demand.age
  | .demandAbsentLimit => s.demandFreshness = .absent ∧ 2000 ≤ s.peerView.demand.age ∧
      s.peerView.demand.limitReported = false
  | .alertExpiry code q n => ∃ a ∈ s.peerView.alerts, a.code = code ∧ a.qualifier = q ∧ a.sender = n ∧ 60 < a.age
  | .startupTimerLimit => s.ladder.mode = .start ∧ 2000 ≤ s.ladder.startupTimer ∧ s.demandFreshness = .absent ∧
      s.ladder.noDemandCause = false
  | .sweepOrSkip => s.startUp.status = .good ∧ s.ladder.mode = .start ∧ s.startUp.decided = false ∧
      s.startUp.done = false ∧ s.ladder.qualifier ≠ .settling
  | .jackknifeAlertRepeat => s.joint.jackknife = true ∧ s.joint.jackTimer = 0
  | .jointLimitAlertRepeat => s.joint.limit = true ∧ s.joint.limitTimer = 0
  | .steerPinnedRepeat => s.steering.state = .pinned ∧ s.steering.alertTimer = 0
  | .brakeDegradedRepeat side =>
      (atSide s.slip.wheels side).degraded = true ∧ (atSide s.slip.wheels side).alertTimer = 0
  | .entranceBreachRepeat slot => ∃ e, s.entrance slot = some e ∧ e.state = .breach ∧ 50 < s.ownSpeed ∧
      e.alerting = true ∧ e.alertTimer = 0
  | .statePromotion => ∃ e ∈ s.link.queue, e.kind = .state ∧ e.cls = 2 ∧ 50 < e.time
  | .stateTimer => s.loaded = true ∧ s.link.listenOnly = false ∧ s.link.stateTimer = 0
  | .secondsTick => 1000 ≤ s.faults.millis
  | .serviceRestart pins => s.service.restartArmed = true ∧ s.service.slot = .free ∧ pins = s.startUp.pins
  | .linkIdle => s.link.recessive = 8 ∧ s.link.queue ≠ [] ∧ s.link.listenOnly = false ∧
      ∀ e ∈ s.link.queue, e.inFlight = false
  | _ => False

/-! ## Terms of the statements: the configuration image -/

/-- The field of bytes 0..71 at an offset lies outside its range (the configuration image table of The Chassis Link, R164);
a signed byte below −60 or above 60 is one of 61..195. -/
def imageFieldOut (b : List Byte) (o : Nat) : Prop :=
  (o = 0 ∧ byteAt b o ≠ 1) ∨ (o = 1 ∧ 2 < byteAt b o) ∨ (o = 2 ∧ 7 < byteAt b o) ∨
  (4 ≤ o ∧ o ≤ 11 ∧ 3 < byteAt b o) ∨ (12 ≤ o ∧ o ≤ 28 ∧ o % 2 = 0 ∧ (pairAt b o = 0 ∨ 2000 < pairAt b o)) ∨
  (o = 30 ∧ 1023 < pairAt b o) ∨ (o = 32 ∧ 1 < byteAt b o) ∨ ((o = 33 ∨ o = 34) ∧ 60 < byteAt b o ∧ byteAt b o < 196) ∨
  (o = 35 ∧ (byteAt b o < 40 ∨ 90 < byteAt b o)) ∨ (o = 36 ∧ (byteAt b o < 2 ∨ 15 < byteAt b o)) ∨
  (o = 37 ∧ 1 < byteAt b o) ∨ (o = 38 ∧ 3 < byteAt b o) ∨ (o = 39 ∧ byteAt b o = 0) ∨
  (o = 42 ∧ (pairAt b o < 300 ∨ 800 < pairAt b o)) ∨ (o = 44 ∧ 100 < byteAt b o) ∨ (o = 45 ∧ 200 < byteAt b o) ∨
  (o = 46 ∧ (pairAt b o < 20 ∨ 400 < pairAt b o)) ∨ (o = 48 ∧ 1000 < pairAt b o) ∨ (o = 50 ∧ 300 < pairAt b o) ∨
  (o = 52 ∧ 600 < pairAt b o) ∨ (o = 54 ∧ (pairAt b o < 3000 ∨ 8000 < pairAt b o)) ∨
  ((o = 56 ∨ o = 58) ∧ (byteAt b o = 0 ∨ 250 < byteAt b o)) ∨ (o = 57 ∧ 2 < byteAt b o ∧ byteAt b o ≠ 255) ∨
  ((o = 59 ∨ o = 63) ∧ (pairAt b o < 500 ∨ 8000 < pairAt b o)) ∨ (o = 61 ∧ (pairAt b o < 200 ∨ 1500 < pairAt b o)) ∨
  (o = 65 ∧ 2500 < pairAt b o) ∨ (o = 67 ∧ (byteAt b o = 0 ∨ 100 < byteAt b o)) ∨
  ((o = 68 ∨ o = 70) ∧ 1500 < pairAt b o)

/-- The check value over bytes 0..93 stands in bytes 94 and 95 (R164). -/
def imageCheckGood (b : List Byte) : Prop :=
  crc16 ((List.range 94).flatMap fun i => msbFirst 8 (byteAt b i)) = pairAt b 94

/-- The checks of R164 on an image of the station of strap number `n`, in their order; `fault` is the qualifier of the
first that fails, none when the image passes. -/
structure ImageChecked (n : Fin 8) (b : List Byte) (fault : Option Nat) : Prop where
  checkValue : ¬imageCheckGood b → fault = some 255
  ranges : imageCheckGood b → ∀ o, o < 72 → imageFieldOut b o → (∀ p, p < o → ¬imageFieldOut b p) → fault = some o
  cab : imageCheckGood b → (∀ o, o < 72 → ¬imageFieldOut b o) → byteAt b 1 = 0 → byteAt b 2 ≠ n.val → fault = some 2
  mask : imageCheckGood b → (∀ o, o < 72 → ¬imageFieldOut b o) → byteAt b 1 ≠ 0 ∨ byteAt b 2 = n.val →
    (byteAt b 3).testBit n.val = false ∨ (byteAt b 3).testBit (byteAt b 2) = false → fault = some 3
  joint : imageCheckGood b → (∀ o, o < 72 → ¬imageFieldOut b o) → byteAt b 1 = 0 → byteAt b 2 = n.val →
    (byteAt b 3).testBit n.val = true → byteAt b 57 ≠ 255 → fault = some 57
  fade : imageCheckGood b → (∀ o, o < 72 → ¬imageFieldOut b o) → byteAt b 1 ≠ 0 ∨ (byteAt b 2 = n.val ∧ byteAt b 57 = 255) →
    (byteAt b 3).testBit n.val = true → (byteAt b 3).testBit (byteAt b 2) = true → pairAt b 70 ≤ pairAt b 68 →
    fault = some 70
  passes : imageCheckGood b → (∀ o, o < 72 → ¬imageFieldOut b o) → byteAt b 1 ≠ 0 ∨ (byteAt b 2 = n.val ∧ byteAt b 57 = 255) →
    (byteAt b 3).testBit n.val = true → (byteAt b 3).testBit (byteAt b 2) = true → pairAt b 68 < pairAt b 70 →
    fault = none

/-- The working form of a good image, byte by byte (the configuration image table of The Chassis Link). -/
structure ImageHolds (i : Image) (b : List Byte) : Prop where
  role : [Role.cab, .plain, .steer][byteAt b 1]? = some i.role
  cabStation : i.cabStation.val = byteAt b 2
  present : ∀ n : Fin 8, i.present.getLsbD n.val = (byteAt b 3).testBit n.val
  sections : ∀ n : Fin 8, i.sections[n] = byteAt b (4 + n.val)
  nominal : ∀ n : Fin 8, i.nominal[n] = pairAt b (12 + 2 * n.val)
  loads : i.unsprung = pairAt b 28 ∧ i.kload = pairAt b 30
  kerb : i.kerb = if byteAt b 32 = 0 then .left else .right
  trimLeft : i.trim.left = if byteAt b 33 < 128 then (byteAt b 33 : Int) else (byteAt b 33 : Int) - 256
  trimRight : i.trim.right = if byteAt b 34 < 128 then (byteAt b 34 : Int) else (byteAt b 34 : Int) - 256
  heights : i.kneelDepth = byteAt b 35 ∧ i.deadband = byteAt b 36
  supplyFitted : i.supplyFitted = true ↔ byteAt b 37 = 1
  fitted : i.fitted.zero = (byteAt b 38).testBit 0 ∧ i.fitted.one = (byteAt b 38).testBit 1
  pulsesPerStep : i.pulsesPerStep = byteAt b 39
  busEntrances : i.busEntrances.toNat = pairAt b 40
  shares : i.dmax = pairAt b 42 ∧ i.stretch = byteAt b 44 ∧ i.boost = byteAt b 45 ∧ i.forcePerKpa = pairAt b 46
  pressures : i.pMax = pairAt b 48 ∧ i.takeoverCap = pairAt b 50 ∧ i.confirmThreshold = pairAt b 52
  path : i.wheelbase = pairAt b 54 ∧ i.axleOffset = byteAt b 56 ∧ i.jointOffset = byteAt b 58
  joint : i.joint.map (fun j => j.val) = if byteAt b 57 = 255 then none else some (byteAt b 57)
  levers : i.jointLever = pairAt b 59 ∧ i.jackThreshold = pairAt b 61 ∧ i.lever = pairAt b 63
  steering : i.maxLock = pairAt b 65 ∧ i.rateLimit = byteAt b 67 ∧ i.fadeStart = pairAt b 68 ∧ i.fadeEnd = pairAt b 70

/-! ## Terms of the statements: payloads -/

/-- A STATE payload that is not malformed (R22). -/
structure StateGood (p : List Byte) : Prop where
  length : (p.length = 9 ∧ (byteAt p 7).testBit 5 = false) ∨ (p.length = 11 ∧ (byteAt p 7).testBit 5 = true)
  role : byteAt p 0 / 16 % 4 ≤ 2
  mode : byteAt p 0 % 16 ≤ 7
  load : 1 ≤ pairAt p 1 ∧ pairAt p 1 ≤ 2000
  speed : pairAt p 3 ≤ 1500
  supply : p.length = 11 → pairAt p 9 ≤ 1270

/-- The record a STATE payload carries, field by field (the STATE rows of The Chassis Link). -/
structure StateCarries (p : List Byte) (r : PeerRecord) : Prop where
  sect : r.sect = byteAt p 0 / 64
  role : [Role.cab, .plain, .steer][byteAt p 0 / 16 % 4]? = some r.role
  mode : [Mode.start, .park, .stop, .kneel, .knelt, .raise, .drive, .backup][byteAt p 0 % 16]? = some r.mode
  figures : r.load = pairAt p 1 ∧ r.speed = pairAt p 3 ∧ r.deficit = pairAt p 5
  flags : r.filling = (byteAt p 7).testBit 0 ∧ r.ready = (byteAt p 7).testBit 1 ∧ r.entLocked = (byteAt p 7).testBit 2 ∧
    r.stopConfirmed = (byteAt p 7).testBit 3 ∧ r.anyBreach = (byteAt p 7).testBit 4
  faults : r.faultSummary.toNat = byteAt p 8
  supply : r.supply = if p.length = 11 then some (pairAt p 9) else none

/-- The values a DEMAND payload carries, field by field (the DEMAND rows of The Chassis Link). -/
structure DemandCarries (p : List Byte) (v : DemandValues) : Prop where
  d : v.d = pairAt p 0
  flags : v.dValid = (byteAt p 2).testBit 0 ∧ v.stop = (byteAt p 2).testBit 1 ∧ v.kneel = (byteAt p 2).testBit 2 ∧
    v.park = (byteAt p 2).testBit 3 ∧ v.rev = (byteAt p 2).testBit 4 ∧ v.drive = (byteAt p 2).testBit 5 ∧
    v.ovr = (byteAt p 2).testBit 6
  release : v.release.toNat = pairAt p 3

/-- An ALERT payload that is not malformed, and the code and qualifier it carries (R31 and the code table of The Chassis
Link). -/
structure AlertCarries (p : List Byte) (code : AlertCode) (q : Byte) : Prop where
  length : p.length = 2
  coded : byteAt p 0 ≠ 0 ∧
    [AlertCode.jackknife, .jointLimit, .steerPinned, .brakeDegraded, .entranceBreach][byteAt p 0 - 1]? = some code
  qualifier : byteAt p 1 = q.toNat
  joint : code = .jackknife ∨ code = .jointLimit → q.toNat ≤ 2
  entrance : code = .entranceBreach → q.toNat ≤ 15

/-- Entry `v` of a full alert set is replaced before entry `a` (R31): the greater age, then the lower code number, then the
lower qualifier, then the lower sender. -/
def AlertEntry.goesBefore (v a : AlertEntry) : Prop :=
  a.age < v.age ∨ (a.age = v.age ∧ (alertNumber v.code < alertNumber a.code ∨ (v.code = a.code ∧
    (v.qualifier.toNat < a.qualifier.toNat ∨ (v.qualifier = a.qualifier ∧ v.sender.val < a.sender.val)))))

/-! ## Terms of the statements -/

/-- A frame from `addr` passes screening up to its routing (R20): the configuration is held, the sender is another
station of the bus, the destination is this station or all. -/
structure State.Hears (s : State) (addr : Address) : Prop where
  loaded : s.loaded = true
  other : addr.sender ≠ s.own
  present : s.present addr.sender = true
  forUs : s.forUs addr.dest = true

/-- The link controller after a frame handed to screening (R152, R153; the count of recessive bits is the model's, log
entry 22). -/
def State.heardLink (s : State) : Link :=
  { s.link with
    received := bump s.link.received
    ackDriven := !s.link.listenOnly
    recessive := 0 }

/-- A peer entry whose peer has just been heard (R22). -/
def Peer.heardAs (p : Peer) (r : PeerRecord) : Peer :=
  { p with
    freshness := .fresh
    age := 0
    record := some r }

/-- A corner whose height sensor has just recovered with raw height `a` (R110, R111). -/
def Corner.recoveredAt (c : Corner) (a : Int) : Corner :=
  { c with
    height := { valid := true, recovery := 10, value := some a }
    h := some (clampInt (-150) 150 (a - c.trim)) }

/-- A corner whose bellows sensor has just recovered with pressure `a` (R118). -/
def Corner.bellowsAt (c : Corner) (a : Nat) : Corner :=
  { c with bellows := { valid := true, recovery := 10, value := some a } }

/-- A request from `addr` reaches the service block and its reply a place in the queue (R159, R174): the sender is not
this station, the destination is, no reply is in the queue, the shed flag is clear, the queue has room. -/
structure State.Serves (s : State) (addr : Address) : Prop where
  loaded : s.loaded = true
  other : addr.sender ≠ s.own
  forUs : addr.dest = .station s.own
  slot : s.service.slot ≠ .queued
  shed : s.link.shed = false
  live : s.link.listenOnly = false
  room : s.link.queue.length < 8

/-- The link controller after a request whose reply has joined the queue. -/
def State.repliedLink (s : State) (sender : Fin 8) (payload : List Byte) : Link :=
  Link.updateShed { s.heardLink with queue := s.link.queue ++
    [{ kind := .serviceReply, cls := 3, dest := sender.val, payload }] }

/-- Every own entrance satisfies `p`; a station with no fitted slot passes (R130), a fitted slot without a record does
not (log entry 11). -/
def State.OwnEntrances (s : State) (p : Entrance → Prop) : Prop :=
  ∀ slot, atSlot s.cfg.fitted slot = true → ∃ e, s.entrance slot = some e ∧ p e

/-- A cause of BACKUP holds (R8 and R16's table): the record LOST, a duplicate station, a bad configuration, or, in START,
no DEMAND within its 2000 ms, which stands until the record is FRESH. -/
def State.BackupCaused (s : State) : Prop :=
  s.demandFreshness = .lost ∨ s.peerView.duplicate = true ∨ s.startUp.status = .bad ∨
    (s.ladder.mode = .start ∧
      ((2000 ≤ s.ladder.startupTimer ∧ s.demandFreshness = .absent) ∨ s.ladder.noDemandCause = true))

/-- The edges of the mode ladder but for BACKUP's entry, each with the whole condition under which it is taken (the
ladder table of Station Modes and the Stop Ladder, R6 to R15, R17); `s` holds the qualifier, target and recovery timer
of the period. -/
def State.edgeHolds (s : State) : Mode → Mode → Prop
  | .start, .park => s.startUp.done = true ∧ s.demandFreshness = .fresh ∧ s.ladder.target = .park ∧
      s.ladder.qualifier = .standstill
  | .start, .stop => s.startUp.done = true ∧ s.demandFreshness = .fresh ∧ s.ladder.target ≠ .park ∧
      s.ladder.qualifier = .standstill
  | .start, .drive => s.startUp.done = true ∧ s.demandFreshness = .fresh ∧ s.ladder.target = .drive ∧
      s.ladder.qualifier = .moving ∧ s.OwnEntrances fun e =>
        e.state ≠ .released ∧ e.state ≠ .opened ∧ e.state ≠ .closing ∧ e.state ≠ .obstructed
  | .park, .stop => s.demand.park = false
  | .stop, .park => s.ladder.target = .park ∧ s.ladder.qualifier = .standstill
  | .stop, .kneel => s.ladder.target = .knelt ∧ s.ladder.qualifier = .standstill ∧ s.brake.confirmed = true
  | .stop, .drive => s.ladder.target = .drive ∧ s.demandFreshness = .fresh ∧ s.interlock.ready = true ∧
      s.OwnEntrances fun e => e.state = .locked ∨ (s.demand.ovr = true ∧ (e.state = .fault ∨ e.state = .breach))
  | .kneel, .knelt => (s.corner s.cfg.kerb).height.valid = true ∧ (s.corner s.cfg.kerb).locked = true ∧
      (s.corner s.cfg.kerb).target = -(s.cfg.kneelDepth : Int) ∧
      ¬(s.demand.kneel = false ∧ s.OwnEntrances fun e => e.state = .locked)
  | .kneel, .raise => s.demand.kneel = false ∧ s.OwnEntrances fun e => e.state = .locked
  | .knelt, .raise => s.demand.kneel = false ∧ s.OwnEntrances fun e => e.state = .locked
  | .raise, .kneel => s.demand.kneel = true
  | .raise, .stop => s.demand.kneel = false ∧
      (∀ side, (s.corner side).height.valid = true → (s.corner side).locked = true ∧ (s.corner side).target = 0) ∧
      ∀ slot e, s.entrance slot = some e → e.state ≠ .breach
  | .drive, .stop => s.demand.stop = true ∧ s.ladder.qualifier = .standstill
  | .backup, .stop => s.peerView.duplicate = false ∧ s.startUp.status ≠ .bad ∧ s.ladder.recoveryTimer = 1000 ∧
      s.ladder.qualifier = .standstill
  | _, _ => False

/-- The coil results as a COIL_SWEEP reply carries them, one byte each in coil number order (R177). -/
def State.coilBytes (s : State) : List Byte :=
  (List.range s.coilCount).map fun i =>
    match s.coil i with
    | .untested => 0
    | .pass => 1
    | .fail => 2

/-- A sweep step with current-sense bit `f` (R168): each register moves one place toward its lowest bit, with the
exclusive-or of its bits 0, 2, 3 and 5, and of its input bit, as its new highest bit. -/
structure Sweep.Shifts (w w' : Sweep) (f : Bool) : Prop where
  counted : w'.state = w.state ∧ w'.coil = w.coil ∧ w'.step = w.step + 1
  moved : ∀ i, i < 15 → w'.pattern.getLsbD i = w.pattern.getLsbD (i + 1) ∧
    w'.driveSig.getLsbD i = w.driveSig.getLsbD (i + 1) ∧ w'.senseSig.getLsbD i = w.senseSig.getLsbD (i + 1)
  pattern : w'.pattern.getLsbD 15 =
    ((w.pattern.getLsbD 0 ^^ w.pattern.getLsbD 2) ^^ (w.pattern.getLsbD 3 ^^ w.pattern.getLsbD 5))
  drive : w'.driveSig.getLsbD 15 = (((w.driveSig.getLsbD 0 ^^ w.driveSig.getLsbD 2) ^^
    (w.driveSig.getLsbD 3 ^^ w.driveSig.getLsbD 5)) ^^ w.pattern.getLsbD 0)
  sense : w'.senseSig.getLsbD 15 = (((w.senseSig.getLsbD 0 ^^ w.senseSig.getLsbD 2) ^^
    (w.senseSig.getLsbD 3 ^^ w.senseSig.getLsbD 5)) ^^ f)

/-- A sweep ends, DONE or ABORTED (R166, R169, R177): start-up is done in START (log entry 28), the coil in test and the
registers stay (log entry 37), and the reply of a COIL_SWEEP is queued, held while the slot is QUEUED, or lost with the
slot FREE on a listen-only station and on a queue that does not take it (R157, R160, R174). -/
structure State.SweepEnds (s t : State) (how : SweepState) : Prop where
  frame : t = { s with
    startUp := { s.startUp with
      sweep := { s.startUp.sweep with state := how }
      done := s.startUp.done || s.ladder.mode == .start }
    link := t.link
    service := t.service }
  unasked : s.service.sweepFor = none → t.link = s.link ∧ t.service = s.service
  kept : ∀ tool, s.service.sweepFor = some tool → s.service.slot = .queued →
    t.link = s.link ∧ t.service = { s.service with
      sweepFor := none
      heldReply := some ⟨tool.val, [5, 0] ++ s.coilBytes⟩ }
  queued : ∀ tool, s.service.sweepFor = some tool → s.service.slot ≠ .queued → s.link.listenOnly = false →
    s.link.queue.length < 8 →
    t.link = Link.updateShed { s.link with queue := s.link.queue ++
      [{ kind := .serviceReply, cls := 3, dest := tool.val, payload := [5, 0] ++ s.coilBytes }] } ∧
    t.service = { s.service with
      slot := .queued
      sweepFor := none }
  silent : ∀ tool, s.service.sweepFor = some tool → s.service.slot ≠ .queued → s.link.listenOnly = true →
    t.link = s.link ∧ t.service = { s.service with
      slot := .free
      sweepFor := none }
  full : ∀ tool, s.service.sweepFor = some tool → s.service.slot ≠ .queued → s.link.listenOnly = false →
    s.link.queue.length = 8 → s.link.QueueOk →
    t.link = { s.link with queueDropped := bump s.link.queueDropped } ∧ t.service = { s.service with
      slot := .free
      sweepFor := none }

/-- After a change to `s` of something a RUNNING sweep watches (R169): a sweep whose conditions no longer hold is aborted,
and otherwise nothing more happens. -/
structure State.SweepWatches (s t : State) : Prop where
  stands : s.sweeping = false ∨ s.sweepMayRun = true → t = s
  aborts : s.sweeping = true → s.sweepMayRun = false → s.SweepEnds t .aborted

/-- The edges of an entrance's state machine (R133 to R139). -/
def entranceEdge : EntranceState → EntranceState → Bool
  | .locked, .breach => true
  | .locked, .released => true
  | .released, .opened => true
  | .released, .locked => true
  | .opened, .closing => true
  | .closing, .opened => true
  | .closing, .obstructed => true
  | .closing, .locked => true
  | .obstructed, .opened => true
  | .obstructed, .closing => true
  | .breach, .locked => true
  | .fault, .locked => true
  | a, b => a == b || b == .fault

/-! ## Terms of the statements: the control periods -/

/-- A sensor before and after a period that took a reading (R64, R81, R111, R118, R122): an out-of-range reading makes it
INVALID with count 0 and no value, a VALID sensor takes its reading, an INVALID one counts toward its tenth. That the
count then stays at 10 is log entry 13. -/
structure Sensor.ReadAs {α : Type} (q q' : Sensor α) (reading : Option α) : Prop where
  lost : reading = none → q' = { valid := false, recovery := 0, value := none }
  taken : ∀ x, reading = some x → q.valid = true → q' = { q with value := some x }
  counted : ∀ x, reading = some x → q.valid = false → q.recovery < 9 → q' = { q with recovery := q.recovery + 1 }
  recovered : ∀ x, reading = some x → q.valid = false → 9 ≤ q.recovery →
    q' = { valid := true, recovery := 10, value := some x }

/-- The fault list after a sensor has taken a reading: its fault is raised at each out-of-range one and ends at the
recovery. -/
def FaultList.afterReading {α : Type} (f : FaultList) (q : Sensor α) (reading : Option α) (code : FaultCode) (n : Nat) :
    FaultList :=
  if reading = none then f.raise code n else if q.valid = false ∧ 9 ≤ q.recovery then f.finish code n else f

/-- The fault list after a condition that held (or not) before holds (or not) now: raised as it begins, ended as it ends.
-/
def FaultList.afterChange (f : FaultList) (before now : Bool) (code : FaultCode) (n : Nat) : FaultList :=
  if before = false ∧ now = true then f.raise code n else if before = true ∧ now = false then f.finish code n else f

/-- One comparison of the joint monitor with mismatch `m` (R66, R67), from record `j` to record `j'`. -/
structure Joint.ComparedAs (j j' : Joint) (threshold m : Nat) : Prop where
  below : j.jackknife = false → m ≤ threshold → j' = { j with lastMismatch := some m, mismatch := 0 }
  above : j.jackknife = false → threshold < m → j.mismatch < 4 →
    j' = { j with lastMismatch := some m, mismatch := j.mismatch + 1 }
  set : j.jackknife = false → threshold < m → 4 ≤ j.mismatch →
    j' = { j with lastMismatch := some m, jackknife := true, mismatch := 0, clear := 0, jackTimer := 20 }
  apart : j.jackknife = true → threshold / 2 ≤ m → j' = { j with lastMismatch := some m, clear := 0 }
  close : j.jackknife = true → m < threshold / 2 → j.clear < 19 →
    j' = { j with lastMismatch := some m, clear := j.clear + 1 }
  cleared : j.jackknife = true → m < threshold / 2 → 19 ≤ j.clear →
    j' = { j with lastMismatch := some m, jackknife := false, mismatch := 0, clear := 0, jackTimer := 0 }

/-- The LIMIT test on a valid angle `a` (R69, R70), from state `s` that has taken the angle to state `t`: set at 5200 cd or
more with the first alert, clear below 4800. -/
structure State.LimitTested (s t : State) (a : Int) : Prop where
  sets : s.joint.limit = false → 5200 ≤ a.natAbs → t = State.offerAlert { s with joint := { s.joint with
    limit := true
    limitTimer := 20 } } .jointLimit s.jointNumber
  clears : s.joint.limit = true → a.natAbs < 4800 → t = { s with joint := { s.joint with
    limit := false
    limitTimer := 0 } }
  stays : (s.joint.limit = false ∧ a.natAbs < 5200) ∨ (s.joint.limit = true ∧ 4800 ≤ a.natAbs) → t = s

/-- The joint record after a clearing of the path (R68); the last mismatch, and the expected angle at a break, by log
entry 33. -/
def Joint.afterClearing (j : Joint) : Joint :=
  { j with
    jackknife := false
    mismatch := 0
    clear := 0
    phiE := none
    lastMismatch := none
    jackTimer := 0 }

/-- What the joint monitor makes of the expected angle `phi` at an arrival (R65, R66): a comparison when the sensor is
VALID and has a reading; the first JACKKNIFE alert when it sets the flag. -/
structure State.JointHears (s t : State) (phi : Int) : Prop where
  compared : ∀ m, s.joint.angle.valid = true → s.joint.angle.value = some m →
    Joint.ComparedAs { s.joint with phiE := some phi } t.joint s.cfg.jackThreshold (m - phi).natAbs
  silent : s.joint.angle.valid = false ∨ s.joint.angle.value = none → t.joint = { s.joint with phiE := some phi }
  alert : s.joint.jackknife = false → t.joint.jackknife = true →
    t.link = ({ s with link := s.heardLink }.offerAlert .jackknife s.jointNumber).link ∧
      t.service = ({ s with link := s.heardLink }.offerAlert .jackknife s.jointNumber).service
  quiet : s.joint.jackknife = true ∨ t.joint.jackknife = false → t.link = s.heardLink ∧ t.service = s.service

/-- An arrival of index `i` has added entries to the path queue, itself the last of them (R44, R47, R57, R65): the
queue keeps its newest D_need entries; when it then holds that many it is ready, TRACE_BROKEN ends, and the due entries
give the path steer angle in FOLLOW and the expected joint angle. -/
structure State.PathGrew (s t : State) (i : Half) (added : List Sample) : Prop where
  tracker : t.tracker = { s.tracker with
    queue := (s.tracker.queue ++ added).drop ((s.tracker.queue ++ added).length - min 256 s.depthNeeded)
    rejectionRun := 0
    broken := t.tracker.broken
    filled := t.tracker.filled }
  ready : s.depthNeeded ≤ t.tracker.queue.length →
    t.tracker.broken = false ∧ t.faults = (s.faults.finish .traceBroken 0).finish .traceBroken 1
  short : t.tracker.queue.length < s.depthNeeded →
    t.tracker.broken = s.tracker.broken ∧ t.faults = s.faults ∧ t.steering = s.steering ∧ t.joint = s.joint ∧
      t.link = s.heardLink ∧ t.service = s.service
  follows : s.depthNeeded ≤ t.tracker.queue.length → s.hasSteering = true → s.steering.state = .follow →
    ∃ e ∈ t.tracker.queue, e.index = i - BitVec.ofNat 16 s.cfg.axleOffset ∧
      t.steering = { s.steering with
        dp := clampInt (-(s.cfg.maxLock : Int)) s.cfg.maxLock (roundHalfAway (e.kappa * s.cfg.lever * 573) 1000000) }
  stands : s.hasSteering = false ∨ s.steering.state ≠ .follow → t.steering = s.steering
  joint : s.depthNeeded ≤ t.tracker.queue.length → s.hasJoint = true →
    ∃ e ∈ t.tracker.queue, e.index = i - BitVec.ofNat 16 s.cfg.jointOffset ∧
      s.JointHears t (roundHalfAway (e.kappa * s.cfg.jointLever * 573) 1000000)
  noJoint : s.hasJoint = false → t.joint = s.joint ∧ t.link = s.heardLink ∧ t.service = s.service

/-- The change between HOME and FOLLOW at a steering period (R53): the state and the path steer angle after it. -/
structure State.FollowsPath (s : State) (state : SteerState) (dp : Int) : Prop where
  enters : s.steering.state = .home → s.pathReady = true → s.demand.rev = false → s.ladder.mode ≠ .start →
    s.ladder.mode ≠ .backup → state = .follow ∧ ∀ e, dueEntry s.tracker.queue s.cfg.axleOffset = some e →
      dp = clampInt (-(s.cfg.maxLock : Int)) s.cfg.maxLock (roundHalfAway (e.kappa * s.cfg.lever * 573) 1000000)
  centred : s.steering.state = .home → s.pathReady = false ∨ s.demand.rev = true ∨ s.ladder.mode = .start ∨
    s.ladder.mode = .backup → state = .home ∧ dp = s.steering.dp
  leaves : s.steering.state = .follow → s.demand.rev = true ∨ s.tracker.broken = true ∨ s.pathReady = false ∨
    s.ladder.mode = .backup → state = .home ∧ dp = 0
  holds : s.steering.state = .follow → s.demand.rev = false → s.tracker.broken = false → s.pathReady = true →
    s.ladder.mode ≠ .backup → state = .follow ∧ dp = s.steering.dp

/-- The axle goes to PINNED (R56): the next state's steering record, and the first alert. -/
structure State.PinsAxle (s t : State) (cause : PinCause) (qualifier : Nat) : Prop where
  record : t.steering.state = .pinned ∧ t.steering.cause = cause ∧ t.steering.dp = 0 ∧ t.steering.tracking = 0 ∧
    t.steering.alertTimer = 20
  alert : t.link = (s.offerAlert .steerPinned qualifier).link ∧ t.service = (s.offerAlert .steerPinned qualifier).service

/-- What the peer view hands out of an entry (R24, R25): the record while it is FRESH or STALE, the deficit and the
filling flag while it is FRESH alone, else the configured load and section. -/
structure State.PeerReads (s : State) (n : Fin 8) : Prop where
  heard : (s.peer n).freshness = .fresh ∨ (s.peer n).freshness = .stale → (s.peer n).heard = (s.peer n).record
  silent : (s.peer n).freshness = .lost ∨ (s.peer n).freshness = .absent → (s.peer n).heard = none
  known : ∀ r, (s.peer n).heard = some r → s.peerLoad n = r.load ∧ s.peerSection n = r.sect ∧
    s.peerReady n = r.ready ∧ s.peerEntLocked n = r.entLocked ∧ s.peerBreach n = r.anyBreach ∧ s.peerMode n = some r.mode
  unknown : (s.peer n).heard = none → s.peerLoad n = s.cfg.nominal[n] ∧ s.peerSection n = s.cfg.sections[n] ∧
    s.peerReady n = false ∧ s.peerEntLocked n = false ∧ s.peerBreach n = false ∧ s.peerMode n = none
  fresh : ∀ r, (s.peer n).freshness = .fresh → (s.peer n).record = some r →
    s.peerDeficit n = r.deficit ∧ s.peerFilling n = r.filling
  old : (s.peer n).freshness ≠ .fresh → s.peerDeficit n = 0 ∧ s.peerFilling n = false

/-- A window start (R124, R125): `before` holds the band and the supply value of the period, `after` the new window's
figures. A window with no band yet is log entry 36. -/
structure State.WindowStarts (s : State) (before after : Levelling) : Prop where
  fillers : after.n = 1 + (s.peerNumbers.filter s.peerFilling).length
  abundant : before.band = some .abundant → after.allowance = 800
  scarce : before.band = some .scarce ∨ before.band = none → after.allowance = 16
  entered : before.band = some .limited → before.limitedNew = true ∨ before.started = false →
    after.allowance = (if before.limitedFrom = some .abundant then 120 else if before.limitedFrom = some .scarce then 24
      else 60)
  hunting : before.band = some .limited → before.limitedNew = false → before.started = true →
    ∀ b v, before.windowSupply = some b → before.supplyValue = some v →
      after.allowance = (if v + 10 < b then max 24 (before.allowance - 12)
        else if b + 10 < v then min 120 (before.allowance + 12) else before.allowance)
  shares : before.band ≠ some .scarce ∨ s.ladder.mode = .raise ∨ s.ladder.mode = .backup →
    after.share = after.allowance / after.n
  withheld : before.band = some .scarce → s.ladder.mode ≠ .raise → s.ladder.mode ≠ .backup → after.share = 0
  begins : after.limit = after.share ∧ after.started = true ∧ after.elapsed = 0 ∧ after.limitedNew = false ∧
    after.windowSupply = before.supplyValue

/-- A window start falls at this period (R124; the periods elapsed count 0 to 99, log entry 20). -/
def State.windowFalls (s : State) : Bool :=
  if s.levelling.started = true then decide (99 ≤ s.levelling.elapsed) else decide (s.ladder.mode ≠ .start)

/-- The air band after a levelling period (R123). -/
structure BandMoves (before : Option Band) (value : Option Nat) (after : Band) : Prop where
  noValue : value = none → after = .scarce
  low : ∀ p, value = some p → p < 700 → after = .scarce
  high : ∀ p, value = some p → 900 ≤ p → after = .abundant
  fromScarce : ∀ p, value = some p → 700 ≤ p → p < 900 → before = some .scarce →
    after = if 730 ≤ p then .limited else .scarce
  fromAbundant : ∀ p, value = some p → 700 ≤ p → p < 900 → before = some .abundant →
    after = if 870 ≤ p then .abundant else .limited
  between : ∀ p, value = some p → 700 ≤ p → p < 900 → before = some .limited ∨ before = none → after = .limited

/-- The corner of a side holds at a levelling period (R115); `valid` is its sensor's standing after stage 1. -/
def State.cornerHolds (s : State) (side : Side) (valid : Bool) : Prop :=
  s.ladder.mode = .start ∨ s.ladder.mode = .park ∨ (s.ladder.mode = .raise ∧ s.breached = true) ∨
    s.coilFailed (cornerCoils side).1 = true ∨ s.coilFailed (cornerCoils side).2 = true ∨ valid = false ∨
    s.sweeping = true

/-- Air may be let in: the band is not SCARCE, or the mode is RAISE or BACKUP (R126, R128). -/
def State.airFlows (s : State) (band : Option Band) : Prop :=
  band ≠ some .scarce ∨ s.ladder.mode = .raise ∨ s.ladder.mode = .backup

/-- The corner of a side goes for its slice after the other one (R116): both call, and the other's error is the
greater, or equal and the other is the kerb corner. -/
def State.servedAfter (s : State) (side : Side) : Bool :=
  decide ((s.corner (otherSide side)).calls = true ∧
    ((s.corner side).err.getD 0 < (s.corner (otherSide side)).err.getD 0 ∨
      ((s.corner side).err = (s.corner (otherSide side)).err ∧ s.cfg.kerb = otherSide side)))

/-- An entrance before and after stage 2 of an entrance period (R133 to R139), its inputs and release bit read; `free` says
whether the conditions of a release other than the bit hold. -/
structure Entrance.MovesTo (e e' : Entrance) (free : Prop) : Prop where
  inconsistent : e.inputs.locked = true → e.inputs.closed = false → e.state ≠ .fault →
    e' = { e with state := .fault, phase := .none, timer := 0, cause := .inconsistent }
  breach : e.state = .locked → e.inputs.locked = false → e' = { e with state := .breach, phase := .none }
  release : e.state = .locked → e.inputs.closed = true → e.inputs.locked = true → e.bit = true → free →
    e' = { e with state := .released, phase := .held, timer := 0 }
  staysLocked : e.state = .locked → e.inputs.closed = true → e.inputs.locked = true → e.bit = false ∨ ¬free → e' = e
  heldOpens : e.state = .released → e.phase ≠ .relocking → e.inputs.locked = false ∨ e.inputs.closed = true →
    e.inputs.closed = false ∨ (e.bit = true ∧ e.inputs.button = true) → e' = { e with state := .opened, phase := .none }
  relock : e.state = .released → e.phase ≠ .relocking → e.inputs.closed = true → e.bit = false →
    e' = { e with phase := .relocking, timer := 0 }
  staysHeld : e.state = .released → e.phase ≠ .relocking → e.inputs.closed = true → e.bit = true →
    e.inputs.button = false → e' = e
  heldAgain : e.state = .released → e.phase = .relocking → e.inputs.locked = false ∨ e.inputs.closed = true →
    e.bit = true → e' = { e with phase := .held, timer := 0 }
  relocked : e.state = .released → e.phase = .relocking → e.bit = false → e.inputs.locked = true →
    e.inputs.closed = true → e' = { e with state := .locked, phase := .none, cause := .none }
  pushed : e.state = .released → e.phase = .relocking → e.bit = false → e.inputs.locked = false →
    e.inputs.closed = false → e' = { e with state := .opened, phase := .none }
  relocking : e.state = .released → e.phase = .relocking → e.bit = false → e.inputs.locked = false →
    e.inputs.closed = true → e' = if e.timer < 990 then { e with timer := e.timer + 10 }
      else { e with state := .fault, phase := .none, timer := 0, cause := .lockTimeout }
  closes : e.state = .opened → e.inputs.locked = false ∨ e.inputs.closed = true → e.bit = false → e.reversals < 3 →
    e' = { e with state := .closing, phase := .driving, timer := 0 }
  staysOpen : e.state = .opened → e.inputs.locked = false ∨ e.inputs.closed = true → e.bit = true ∨ 3 ≤ e.reversals →
    e' = e
  reopens : e.state = .closing ∨ e.state = .obstructed → e.inputs.locked = false ∨ e.inputs.closed = true →
    e.bit = true → e' = { e with state := .opened, phase := .none }
  obstructed : e.state = .closing → e.inputs.locked = false ∨ e.inputs.closed = true → e.bit = false →
    e.inputs.edge = true →
    e' = { e with state := .obstructed, phase := .none, timer := 0, reversals := min 3 (e.reversals + 1) }
  shut : e.state = .closing → e.phase ≠ .latching → e.bit = false → e.inputs.edge = false → e.inputs.closed = true →
    e' = { e with phase := .latching, saved := e.timer, timer := 0 }
  driving : e.state = .closing → e.phase ≠ .latching → e.inputs.locked = false → e.bit = false → e.inputs.edge = false →
    e.inputs.closed = false → e' = if e.timer < 7990 then { e with timer := e.timer + 10 }
      else { e with state := .fault, phase := .none, timer := 0, cause := .closeTimeout }
  latched : e.state = .closing → e.phase = .latching → e.inputs.closed = true → e.bit = false → e.inputs.edge = false →
    e.inputs.locked = true → e' = { e with state := .locked, phase := .none, cause := .none }
  bounced : e.state = .closing → e.phase = .latching → e.inputs.locked = false → e.bit = false → e.inputs.edge = false →
    e.inputs.closed = false → e' = { e with phase := .driving, timer := e.saved }
  latching : e.state = .closing → e.phase = .latching → e.inputs.locked = false → e.bit = false → e.inputs.edge = false →
    e.inputs.closed = true → e' = if e.timer < 990 then { e with timer := e.timer + 10 }
      else { e with state := .fault, phase := .none, timer := 0, cause := .lockTimeout }
  reversing : e.state = .obstructed → e.inputs.locked = false ∨ e.inputs.closed = true → e.bit = false →
    e' = if e.timer < 990 then { e with timer := e.timer + 10 }
      else if e.reversals < 3 then { e with state := .closing, phase := .driving, timer := 0 }
      else { e with state := .opened, phase := .none, timer := e.timer + 10 }
  restored : e.state = .breach ∨ e.state = .fault → e.inputs.closed = true → e.inputs.locked = true →
    e' = { e with state := .locked, phase := .none, cause := .none }
  staysOut : (e.state = .breach ∧ e.inputs.locked = false) ∨
    (e.state = .fault ∧ (e.inputs.closed = false ∨ e.inputs.locked = false)) → e' = e

/-- An entrance record after stage 1 of an entrance period (R130, R131); a fitted slot's missing record is made there (log
entry 11). -/
def Entrance.readFrom (old : Option Entrance) (i : SlotInputs) (bit : Bool) : Entrance :=
  let e := old.getD { state := if i.closed = true ∧ i.locked = true then .locked else .opened, inputs := i }
  { e with inputs := i, bit, reversals := if bit then 0 else e.reversals }

/-- An ENTRANCE_BREACH alert of a slot is queued at a period at which the entrance is in BREACH above speed 50: its first,
or one whose 20 ms have run out (R139). -/
def State.breachFrameDue (s : State) (slot : Slot) (old : Option Entrance) : Bool :=
  (s.entrance slot).any fun e => e.state == .breach && 50 < s.ownSpeed &&
    !(old.any fun x => x.alerting && x.alertTimer != 0)

/-! ## Terms of the statements: the link and the service block -/

/-- The end of an attempt after which the entry in flight has left (R153, R154, R156, R157, R160, R174; what the slot holds
while a sweep's reply is pending is log entry 17, that a held frame joins in the class of its kind is log entry 18). -/
structure State.AttemptDone (s t : State) (e : Entry) : Prop where
  wires : t.link.held = none ∧ t.link.wire = []
  alone : s.link.held = none → e.kind ≠ .serviceReply → t.service = s.service ∧
    t.link.queue = s.link.queue.filter (fun x => !x.inFlight)
  replaced : ∀ h, s.link.held = some h → t.service = s.service ∧
    t.link.queue = s.link.queue.filter (fun x => !x.inFlight) ++ [{ h with time := 0, inFlight := false }]
  replyLeft : e.kind = .serviceReply → s.service.heldReply = none ∨ s.link.listenOnly = true →
    t.link.queue = s.link.queue.filter (fun x => !x.inFlight) ∧ t.service = { s.service with
      slot := if s.service.sweepFor.isSome then .waiting else .free
      heldReply := none }
  nextReply : ∀ r, e.kind = .serviceReply → s.service.heldReply = some r → s.link.listenOnly = false →
    t.link.queue = s.link.queue.filter (fun x => !x.inFlight) ++
      [{ kind := .serviceReply, cls := 3, dest := r.dest, payload := r.payload }] ∧
    t.service = { s.service with
      slot := .queued
      heldReply := none }

/-- The entry `x` is the one that frame `e` of a kind held once stands for: the STATE, the DEMAND, or the ALERT with the
same code and qualifier, which are its whole payload (R156). -/
def Entry.matchedBy (x e : Entry) : Prop :=
  x.kind = e.kind ∧ (e.kind = .state ∨ e.kind = .demand ∨ (e.kind = .alert ∧ x.payload = e.payload))

/-- Frame `e` offered to the queue of `l` leaves it as `l'` (R156, R157, R159, R160); `left` says whether a SERVICE_REPLY
has been displaced. A listen-only station refuses it; a frame whose matching entry is in flight is held aside, and one
whose matching entry waits replaces it in place; a fifth TRACE drops the oldest not in flight; any other joins at the
tail while there is room, and on a full queue displaces the youngest entry of the least urgent class, or is dropped. -/
structure Link.Takes (l : Link) (e : Entry) (l' : Link) (left : Bool) : Prop where
  refused : l.listenOnly = true → l' = l ∧ left = false
  aside : l.listenOnly = false → (∃ x ∈ l.queue, x.matchedBy e ∧ x.inFlight = true) →
    l' = { l with held := some e } ∧ left = false
  replaced : l.listenOnly = false → ∀ before x after, l.queue = before ++ x :: after → x.matchedBy e →
    x.inFlight = false → l' = { l with queue := before ++ { x with payload := e.payload } :: after } ∧ left = false
  fifth : l.listenOnly = false → e.kind = .trace → countKind .trace l.queue = 4 →
    ∀ before x after, l.queue = before ++ x :: after → x.kind = .trace → x.inFlight = false →
      (∀ y ∈ before, y.kind = .trace → y.inFlight = true) →
      l' = Link.updateShed { Link.updateShed { l with
          queue := before ++ after
          traceDropped := bump l.traceDropped } with queue := before ++ after ++ [e] } ∧ left = false
  joins : l.listenOnly = false → (∀ x ∈ l.queue, ¬x.matchedBy e) → (e.kind = .trace → countKind .trace l.queue < 4) →
    l.queue.length < 8 → l' = Link.updateShed { l with queue := l.queue ++ [e] } ∧ left = false
  displaces : l.listenOnly = false → (∀ x ∈ l.queue, ¬x.matchedBy e) →
    (e.kind = .trace → countKind .trace l.queue < 4) → l.queue.length = 8 →
    ∀ before x after, l.queue = before ++ x :: after → x.inFlight = false → e.cls < x.cls →
      (∀ y ∈ l.queue, y.inFlight = false → y.cls ≤ x.cls) → (∀ y ∈ after, y.inFlight = false → y.cls < x.cls) →
      l' = Link.updateShed { l with
        queue := before ++ after ++ [e]
        displaced := bump l.displaced } ∧ (left = true ↔ x.kind = .serviceReply)
  dropped : l.listenOnly = false → (∀ x ∈ l.queue, ¬x.matchedBy e) →
    (e.kind = .trace → countKind .trace l.queue < 4) → l.queue.length = 8 →
    (∀ y ∈ l.queue, y.inFlight = false → y.cls ≤ e.cls) →
    l' = { l with queueDropped := bump l.queueDropped } ∧ left = false

/-- A block offers a frame (R156, R157, R174): a SERVICE_REPLY displaced for it frees the reply slot, and a reply held back
is then offered to a queue that is full, and lost (log entries 17 and 27). -/
def State.Offers (s : State) (e : Entry) (t : State) : Prop :=
  ∃ l left, s.link.Takes e l left ∧ (left = false → t = { s with link := l }) ∧
    (left = true → t = { s with
      link := if s.service.heldReply.isSome then { l with queueDropped := bump l.queueDropped } else l
      service := { s.service with
        slot := if s.service.sweepFor.isSome then .waiting else .free
        heldReply := none } })

end Sys2Proof.Machine
end

