-- ==== Sys2Proof/Certificates/Slice0/Obligations.lean ====
section
/-! DEFINITION. The statements for the provers. A frame is written as an equation: the next state is the old one with
the named blocks alone replaced. -/

open Sys2Proof Sys2Proof.Machine

/-! ## The machine -/

/-- A step takes the command at the front of the queue and runs it on the state with the queue's rest. -/
def Obligations.StepRunsFrontCommand : Prop :=
  ∀ (c : Instr) (rest : List Instr) (s : State), s.pending = c :: rest → step s = exec c { s with pending := rest }

/-- With no command waiting, what has fallen due joins the queue; when nothing has, a millisecond passes first (the
model's choice, log entry 2). What falls due by time alone (R8, R23, R28, R32, R56, R70, R108, R139, R155, R158, R161,
R166, R172, R177). What a millisecond changes: the ages of the peers, the record and the alerts (R23, R28, R32), the
start-up timer in START alone (R6, R8), the times to the next alerts, DEMAND of a CAB station and STATE of a station that
may send (R56, R70, R108, R139, R144, R160, R161), the times in the queue (R158) and the millisecond count. Limits act
once passed, and those of ABSENT entries once (log entry 5). -/
def Obligations.EmptyQueueLetsTimePass : Prop :=
  (∀ n, n ≤ 65535 → bump n = min 65535 (n + 1)) ∧
  ∀ s : State,
    (s.pending = [] → (s.dueNow ≠ [] → step s = .next { s with pending := s.dueNow }) ∧
      (s.dueNow = [] → step s = .next { s.pass with pending := s.pass.dueNow })) ∧
    (∀ c : Instr, c ∈ s.dueNow ↔ s.Due c) ∧
    (∀ n, s.pass.peer n = (if s.isPeer n = true then { s.peer n with age := bump (s.peer n).age } else s.peer n)) ∧
    (∀ slot, s.pass.entrance slot = (s.entrance slot).map fun e => { e with alertTimer := e.alertTimer - 1 }) ∧
    s.pass = { s with
      peerView := { s.peerView with
        peers := s.pass.peerView.peers
        demand := { s.peerView.demand with age := bump s.peerView.demand.age }
        alerts := s.peerView.alerts.map fun a => { a with age := bump a.age } }
      ladder := { s.ladder with
        startupTimer := if s.ladder.mode = .start then bump s.ladder.startupTimer else s.ladder.startupTimer }
      joint := { s.joint with
        jackTimer := s.joint.jackTimer - 1
        limitTimer := s.joint.limitTimer - 1 }
      steering := { s.steering with alertTimer := s.steering.alertTimer - 1 }
      slip := { s.slip with wheels :=
        ⟨{ s.slip.wheels.left with alertTimer := s.slip.wheels.left.alertTimer - 1 },
          { s.slip.wheels.right with alertTimer := s.slip.wheels.right.alertTimer - 1 }⟩ }
      interlock := { s.interlock with
        records := s.pass.interlock.records
        demandTimer := if s.isCab = true then s.interlock.demandTimer - 1 else s.interlock.demandTimer }
      link := { s.link with
        stateTimer := if s.loaded = true ∧ s.link.listenOnly = false then s.link.stateTimer - 1 else s.link.stateTimer
        queue := s.link.queue.map fun e => { e with time := bump e.time } }
      faults := { s.faults with millis := s.faults.millis + 1 } }

/-- Every command has an effect that goes on to a next state, and touches no waiting command. -/
def Obligations.EveryCommandAnswersNext : Prop :=
  ∀ (c : Instr) (s : State), ∃ t, exec c s = .next t ∧ t.pending = s.pending

/-- The values the manual gives for a reset, block by block (R1, R3, R4, R6, R17, R20, R21, R26, R28, R29, R31, R36, R40,
R41, R46, R50, R51, R62, R74, R97, R110, R128, R130, R145 to R148, R159 to R163, R167, R171, R172, R174, R175). Fields for
which it gives none are log entry 10's and are not held here, nor are the model's own fields of log entry 12 but two: that no
window has started (R110) and that a new second has begun (R172). -/
def Obligations.ResetLeavesTheManualsValues : Prop :=
  let s := State.reset
  (s.ladder.mode = .start ∧ s.ladder.target = .none ∧ s.ladder.qualifier = .settling ∧ s.ladder.stillTimer = 0 ∧
    s.ladder.startupTimer = 0 ∧ s.ladder.recoveryTimer = 0) ∧
  ((∀ n : Fin 8, (s.peer n).freshness = .absent ∧ (s.peer n).age = 0 ∧ (s.peer n).record = none) ∧
    s.demandFreshness = .absent ∧ s.peerView.demand.age = 0 ∧ s.demand = ⟨0, false, false, false, false, false, false, false, 0⟩ ∧
    s.peerView.alerts = [] ∧ s.peerView.stranger = 0 ∧ s.peerView.foreignDemand = 0 ∧ s.peerView.foreignTrace = 0 ∧
    s.peerView.malformed = 0 ∧ s.peerView.displaced = 0) ∧
  (s.tracker.queue = [] ∧ s.tracker.traceIndex = 0 ∧ s.tracker.accumulator = 0 ∧ s.tracker.rejectionRun = 0 ∧
    s.tracker.malformed = 0 ∧ s.tracker.discarded = 0 ∧ s.tracker.older = 0 ∧ s.tracker.filled = 0) ∧
  (s.steering.state = .home ∧ s.steering.command = 0 ∧ s.steering.dp = 0 ∧ s.steering.tracking = 0 ∧
    s.steering.cause = .none ∧ s.steering.lockOn = false ∧ s.steering.actP = false ∧ s.steering.actN = false) ∧
  (s.joint.angle = { valid := true, recovery := 0, value := none } ∧ s.joint.phiE = none ∧ s.joint.lastMismatch = none ∧
    s.joint.mismatch = 0 ∧ s.joint.clear = 0 ∧ s.joint.jackknife = false ∧ s.joint.limit = false) ∧
  (s.brake.state = .electric ∧ s.brake.cause = ⟨.none, .none⟩ ∧
    s.brake.chamber = ⟨{ valid := true, recovery := 0, value := none }, { valid := true, recovery := 0, value := none }⟩ ∧
    s.brake.dUsed = 0 ∧ s.brake.mOwn = 0 ∧ s.brake.wOwn = 0 ∧ s.brake.mTot = 0 ∧ s.brake.wSum = 0 ∧ s.brake.fBase = 0 ∧
    s.brake.defSum = 0 ∧ s.brake.wNoDef = 0 ∧ s.brake.cap = 0 ∧ s.brake.takeover = 0 ∧ s.brake.pBase = 0 ∧
    s.brake.pReq = 0 ∧ s.brake.targets = ⟨0, 0⟩ ∧ s.brake.position = ⟨.openToDriver, .openToDriver⟩ ∧
    s.brake.deficit = 0 ∧ s.brake.confirmed = false ∧ s.brake.ped1 = none ∧ s.brake.ped2 = none ∧ s.brake.d = 0 ∧
    s.brake.dValid = false) ∧
  (s.slip.vref = 0 ∧ ∀ side, ∃ w, atSide s.slip.wheels side = w ∧ w.window = [] ∧ w.count = 0 ∧ w.speed = 0 ∧
    w.slip = none ∧ w.state = .off ∧ w.reapply = false ∧ w.grip = 0 ∧ w.lock = 0 ∧ w.degraded = false ∧ w.target = 0) ∧
  ((∀ side, ∃ c, s.corner side = c ∧ c.height = { valid := true, recovery := 0, value := none } ∧ c.h = none ∧
      c.target = 0 ∧ c.inBand = 0 ∧ c.outBand = 0 ∧ c.locked = false ∧ c.valve = .closed ∧ c.calls = false ∧
      c.starved = false ∧ c.bellows = { valid := true, recovery := 0, value := none }) ∧
    s.levelling.supply = { valid := true, recovery := 0, value := none } ∧ s.levelling.supplyValue = none ∧
    s.levelling.band = none ∧ s.levelling.limitedFrom = none ∧ s.levelling.windowSupply = none ∧
    s.levelling.allowance = 0 ∧ s.levelling.n = 0 ∧ s.levelling.share = 0 ∧ s.levelling.limit = 0 ∧
    s.levelling.used = 0 ∧ s.levelling.started = false ∧ s.levelling.elapsed = 0 ∧ s.levelling.filling = false ∧
    s.levelling.raiseTimer = 0) ∧
  (s.interlock.records = ⟨none, none⟩ ∧ s.interlock.valve = false ∧ s.interlock.ready = false ∧
    s.interlock.entLocked = false ∧ s.interlock.anyBreach = false ∧ s.interlock.driveFlag = false ∧
    s.interlock.traction = false ∧ s.interlock.warning = false ∧ s.interlock.entranceLine = false) ∧
  (s.link.queue = [] ∧ s.link.ackMiss = 0 ∧ s.link.shed = false ∧ s.link.listenOnly = false ∧ s.link.received = 0 ∧
    s.link.format = 0 ∧ s.link.checkError = 0 ∧ s.link.rejected = 0 ∧ s.link.sent = 0 ∧ s.link.unacked = 0 ∧
    s.link.sendError = 0 ∧ s.link.traceDropped = 0 ∧ s.link.displaced = 0 ∧ s.link.queueDropped = 0 ∧
    s.link.serviceShed = 0) ∧
  (s.startUp.strap = none ∧ s.startUp.config = none ∧ s.startUp.status = .notLoaded ∧ s.startUp.done = false ∧
    s.startUp.sweep.state = .idle ∧ ∀ i, s.coil i = .untested) ∧
  (s.faults = { records := [], overflow := false, seconds := 0, millis := 0 } ∧ s.service.slot = .free ∧
    s.service.heldReply = none ∧ s.service.capture = none ∧ s.service.busyDrop = 0 ∧ s.service.unknown = 0)

/-- The reset state is sound in every sense that a step keeps. A consequence of the reset state, some of whose values
are the model's choice (log entry 10). -/
def Obligations.ResetIsSound : Prop :=
  State.reset.LinkOk ∧ State.reset.tracker.PathOk ∧ State.reset.peerView.AlertsOk ∧ State.reset.faults.ListOk ∧
    State.reset.SteerOk ∧ State.reset.SweepOk ∧ State.reset.DoorsOk ∧ State.reset.ValveOk ∧
    State.reset.levelling.SlicesOk

/-! ## Resets, configuration and the coil sweep -/

/-- POWER_ON_RESET: every block at its reset value, the fault list empty, the straps read (R163, R164).
SERVICE_RESTART, once a RESTART has been allowed and the reply slot is FREE: as a power-on reset, but the fault
list keeps its records with every active flag clear, and its overflow flag (R163, R172, R177). Until then
nothing. Some values of the reset state, and the queue that waits, are the model's choice (log entries 10 and 24). -/
def Obligations.BothResetsRestoreTheState : Prop :=
  (∀ (pins : StrapPins) (s : State),
    exec (.powerOnReset pins) s = .next { State.reset with
      pending := s.pending
      startUp := { State.reset.startUp with
        pins
        strap := some (strapNumber pins) } } ∧
    (strapNumber pins).val = (if pins.stn0 then 1 else 0) + 2 * (if pins.stn1 then 1 else 0) + 4 * (if pins.stn2 then 1 else 0)) ∧
  (∀ (pins : StrapPins) (s : State),
    (s.service.restartArmed = true → s.service.slot = .free →
      exec (.serviceRestart pins) s = .next { State.reset with
        pending := s.pending
        startUp := { State.reset.startUp with
          pins
          strap := some (strapNumber pins) }
        faults := { records := s.faults.records.map fun r => { r with active := false }
                    overflow := s.faults.overflow
                    seconds := 0
                    millis := 0 } }) ∧
    (s.service.restartArmed = false ∨ s.service.slot ≠ .free → exec (.serviceRestart pins) s = .next s))

/-- CONFIGURATION_IMAGE_READ (R110, R148, R164, R165): the checks in their order, the check value, the first field out
of its range, the cab number, the present mask, a joint on a CAB station, the fade; a good image is held with each field
from its bytes; a bad one gives the default image of R165, the status BAD and CONFIG_BAD with the qualifier of the failed
check. The trims and the load are taken, and the first STATE is queued on an empty queue. Once an image is held no other is
read. The model's choices: the image is read once after a reset, a read before any reset has read the straps takes them
first, CONFIG_BAD comes before the first STATE (log entry 24), and the DEMAND timer starts at 0 (log entry 9). The check
value itself is pinned by InsertedBitsAreRemovedAgain. -/
def Obligations.ImageIsHeldOrReplaced : Prop :=
  (defaultImage = {
    role := .plain, cabStation := 0, present := 255, sections := Vector.replicate 8 0, nominal := Vector.replicate 8 1000,
    unsprung := 200, kload := 256, kerb := .right, trim := ⟨0, 0⟩, kneelDepth := 70, deadband := 5, supplyFitted := false,
    fitted := ⟨true, true⟩, busEntrances := 0, pulsesPerStep := 1, dmax := 650, stretch := 40, boost := 100,
    forcePerKpa := 120, pMax := 850, takeoverCap := 200, confirmThreshold := 200, wheelbase := 5900, axleOffset := 1,
    joint := none, jointOffset := 1, jointLever := 500, jackThreshold := 600, lever := 500, maxLock := 1500,
    rateLimit := 30, fadeStart := 300, fadeEnd := 500 }) ∧
  ∀ (image : List Byte) (s : State) (n : Fin 8), n = s.startUp.strap.getD (strapNumber s.startUp.pins) →
    (s.startUp.status ≠ .notLoaded → exec (.configurationImageRead image) s = .next s) ∧
    (s.startUp.status = .notLoaded → ∃ t, exec (.configurationImageRead image) s = .next t ∧
      t = { s with
        startUp := t.startUp
        levelling := t.levelling
        interlock := { s.interlock with demandTimer := 0 }
        link := t.link
        faults := t.faults
        service := t.service } ∧
      (∃ fault : Option Nat, ImageChecked n image fault ∧
        (fault = none → ∃ i : Image, ImageHolds i image ∧ t.faults = s.faults ∧
          t.startUp = { s.startUp with
            strap := some n
            config := some i
            status := .good }) ∧
        ∀ q, fault = some q → t.faults = s.faults.raise .configBad q ∧
          t.startUp = { s.startUp with
            strap := some n
            config := some defaultImage
            status := .bad
            badQualifier := some q }) ∧
      t.levelling = { s.levelling with
        corners := ⟨{ s.levelling.corners.left with
            trim := t.cfg.trim.left
            trimSeen := t.cfg.trim.left }, { s.levelling.corners.right with
            trim := t.cfg.trim.right
            trimSeen := t.cfg.trim.right }⟩
        load := t.cfg.unsprung } ∧
      t.link.stateTimer = 20 ∧
      (s.link.queue = [] → s.link.listenOnly = false → s.service = t.service ∧
        t.link.queue = [{ kind := .state, cls := 2, dest := 8, payload := t.statePayload }]))

/-- SWEEP_OR_SKIP in START with a good image, undecided and not SETTLING (R166, R167): with the start conditions the
sweep starts at the lowest coil that is not FAIL; without them start-up is done at once. A sweep that starts takes the
drives from their blocks (R55, R61, R82, R117), at that moment by log entry 31. -/
def Obligations.StartUpSweepsOrSkips : Prop :=
  ∀ s : State, s.startUp.status = .good → s.ladder.mode = .start → s.startUp.decided = false → s.startUp.done = false →
    s.ladder.qualifier ≠ .settling →
    (s.handOver = { s with
      brake := { s.brake with driving := false }
      levelling := { s.levelling with
        corners := ⟨{ s.levelling.corners.left with valve := .closed }, { s.levelling.corners.right with valve := .closed }⟩ }
      steering := { s.steering with
        tracking := 0
        lockOn := false
        actP := false
        actN := false } }) ∧
    (s.sweepMayRun = true → ∀ i, i < s.coilCount → s.coilFailed i = false → (∀ j, j < i → s.coilFailed j = true) →
      exec .sweepOrSkip s = .next { s.handOver with startUp := { s.startUp with
        decided := true
        sweep := { state := .running, coil := i, step := 0, driveSig := 0, senseSig := 0,
                   pattern := 0xACE1#16 ^^^ BitVec.ofNat 16 s.own.val } } }) ∧
    (s.sweepMayRun = false → exec .sweepOrSkip s = .next { s with startUp := { s.startUp with
        decided := true
        done := true } })

/-- SWEEP_STEP before the last of a coil's test (R168): each register moves one place toward its lowest bit, with the
exclusive-or of its bits 0, 2, 3 and 5, and of its input bit, as its new highest bit. While the sweep runs its coil is
driven in a step whose drive bit, the pattern's lowest, is 1, and of the others the stop-brake valve alone is driven, as
commanded (R61, R82, R117, R141, R167, R168); what the outputs are in the moments at its start and end is log entry 31. -/
def Obligations.SweepStepShiftsRegisters : Prop :=
  (∀ (f : Bool) (s : State), s.sweeping = true → s.sweepMayRun = true → s.startUp.sweep.step < 31 →
    ∃ w : Sweep, exec (.sweepStep f) s = .next { s with startUp := { s.startUp with sweep := w } } ∧
      s.startUp.sweep.Shifts w f) ∧
  ∀ (s : State) (i : Nat), s.sweeping = true → i < 10 →
    (s.coilOn i = true ↔ if i = s.startUp.sweep.coil then s.startUp.sweep.pattern.getLsbD 0 = true
      else i = 8 ∧ s.interlock.valve = true)

/-- The 32nd SWEEP_STEP of a coil (R168, R170): PASS when the signatures are equal, else FAIL with COIL_FAIL raised;
then the test of the next coil that is not FAIL begins, with both signature registers 0 and the link and the reply slot as
they were, or the sweep is DONE and a pending reply is given (R167, R177). The moment of start-up done is log entry 28, the
registers after the end log entry 37, a reply that finds no place log entry 27. -/
def Obligations.LastSweepStepMarksCoil : Prop :=
  ∀ (f : Bool) (s : State), s.sweeping = true → s.sweepMayRun = true → s.startUp.sweep.step = 31 →
    s.startUp.sweep.coil < s.coilCount →
    ∃ (t : State) (w : Sweep) (r : CoilResult) (v : State), exec (.sweepStep f) s = .next t ∧ s.startUp.sweep.Shifts w f ∧
      r = (if w.driveSig = w.senseSig then .pass else .fail) ∧
      v = { s with
        startUp := { s.startUp with
          sweep := w
          coils := s.startUp.coils.setIfInBounds s.startUp.sweep.coil r }
        faults := if r = .fail then s.faults.raise .coilFail s.startUp.sweep.coil else s.faults } ∧
      (∀ i, s.startUp.sweep.coil < i → i < s.coilCount → s.coilFailed i = false →
        (∀ j, s.startUp.sweep.coil < j → j < i → s.coilFailed j = true) →
        t = { v with startUp := { v.startUp with sweep := { state := .running, coil := i, step := 0,
                                                            pattern := 0xACE1#16 ^^^ BitVec.ofNat 16 s.own.val,
                                                            driveSig := 0, senseSig := 0 } } }) ∧
      ((∀ j, s.startUp.sweep.coil < j → j < s.coilCount → s.coilFailed j = true) → v.SweepEnds t .done)

/-- A sweep step under broken conditions aborts the sweep and counts for nothing (R169); the conditions are the mode,
standstill, D = 0, a record that is not LOST, and every own entrance LOCKED. In START start-up is then done (R166), and a
pending COIL_SWEEP is answered (R177). That the coil in test, the step count and the registers stay as they stood is log
entry 37, start-up done log entry 28, a fitted slot without a record log entry 11, a reply that finds no place log entry
27. -/
def Obligations.BrokenConditionsAbortSweep : Prop :=
  ∀ (f : Bool) (s : State), s.sweeping = true →
    (s.sweepMayRun = true ↔ (s.ladder.mode = .start ∨ s.ladder.mode = .park) ∧ s.ladder.qualifier = .standstill ∧
      s.demand.d = 0 ∧ s.demandFreshness ≠ .lost ∧ s.OwnEntrances fun e => e.state = .locked) ∧
    (s.sweepMayRun = false → ∃ t, exec (.sweepStep f) s = .next t ∧ s.SweepEnds t .aborted)

/-! ## The mode ladder -/

/-- LADDER_PERIOD takes at most one edge (R2): the edge to BACKUP first when one of its causes holds (R8, R16), which sets
the recovery timer to 0; else the edge of the ladder table whose condition holds, and none when none does. In BACKUP the
recovery timer grows by 10 up to 1000 while the record is FRESH and is 0 otherwise; elsewhere it holds (R17). A RUNNING
sweep whose conditions the period breaks is aborted after the edge, so the edge is tested with start-up done as it was
before (log entry 32). The table leaves three points to the model: the recovery timer is tested as this period has left it
(log entry 13), KNEEL prefers RAISE to KNELT, RAISE to KNEEL needs no end of a breach and RAISE to STOP does (log entry
15), and a fitted slot without a record fails every condition on all entrances (log entry 11). -/
def Obligations.LadderPeriodTakesOneEdge : Prop :=
  ∀ s : State, ∃ t v, exec .ladderPeriod s = .next t ∧
    v = { s with ladder := { s.ladder with
      mode := t.ladder.mode
      target := t.ladder.target
      qualifier := t.ladder.qualifier
      stillTimer := t.ladder.stillTimer
      startupSeen := s.ladder.startupTimer
      recoveryTimer := t.ladder.recoveryTimer } } ∧
    v.SweepWatches t ∧
    t.ladder.recoveryTimer = (if s.ladder.mode ≠ .backup then (if t.ladder.mode = .backup then 0 else s.ladder.recoveryTimer)
      else if s.demandFreshness = .fresh then min 1000 (s.ladder.recoveryTimer + 10) else 0) ∧
    (s.BackupCaused → t.ladder.mode = .backup) ∧
    (¬s.BackupCaused → ∀ m, m ≠ s.ladder.mode → (t.ladder.mode = m ↔
      State.edgeHolds { v with ladder := { v.ladder with mode := s.ladder.mode } } s.ladder.mode m))

/-- LADDER_PERIOD and the speed qualifier (R3): the still timer grows by 10 up to 500 at a speed of 5 or less and is
0 above it; the qualifier follows. While it is SETTLING no sweep is chosen or skipped. LADDER_PERIOD and the target
mode (R4): the first line of the table that applies, NONE while the record is LOST or ABSENT. Both resets set the
timer to 0, the qualifier to SETTLING and the target to NONE. -/
def Obligations.LadderPeriodSetsQualifierAndTarget : Prop :=
  (∀ (pins : StrapPins) (s : State),
    (∃ t, exec (.powerOnReset pins) s = .next t ∧ t.ladder.stillTimer = 0 ∧ t.ladder.qualifier = .settling ∧
      t.ladder.target = .none) ∧
    (s.service.restartArmed = true → s.service.slot = .free →
      ∃ t, exec (.serviceRestart pins) s = .next t ∧ t.ladder.stillTimer = 0 ∧ t.ladder.qualifier = .settling ∧
        t.ladder.target = .none)) ∧
  (∀ s : State, s.ladder.qualifier = .settling → exec .sweepOrSkip s = .next s) ∧
  ∀ s : State, ∃ t, exec .ladderPeriod s = .next t ∧
    s.ownSpeed = (s.slip.wheels.left.speed + s.slip.wheels.right.speed) / 2 ∧
    (s.ownSpeed ≤ 5 → t.ladder.stillTimer = min 500 (s.ladder.stillTimer + 10) ∧
      t.ladder.qualifier = if t.ladder.stillTimer = 500 then .standstill else .settling) ∧
    (5 < s.ownSpeed → t.ladder.stillTimer = 0 ∧ t.ladder.qualifier = .moving) ∧
    (s.demandFreshness = .lost ∨ s.demandFreshness = .absent → t.ladder.target = .none) ∧
    (s.demandFreshness = .fresh ∨ s.demandFreshness = .stale →
      t.ladder.target =
        if s.peerView.demand.values.park then .park
        else if s.peerView.demand.values.kneel then .knelt
        else if s.peerView.demand.values.stop then .stop
        else if s.peerView.demand.values.drive then .drive
        else .stop)

/-- STILL_TIMER_FULL, STARTUP_TIMER_LIMIT and RECOVERY_TIMER_FULL (R3, R8, R17), at the count that reaches the limit.
As commands of their own these are the model's reading (log entry 1). -/
def Obligations.LadderTimersReachTheirLimits : Prop :=
  (∀ s : State, s.ownSpeed ≤ 5 → 490 ≤ s.ladder.stillTimer →
    exec .stillTimerFull s = .next { s with ladder := { s.ladder with
      stillTimer := 500
      qualifier := .standstill } }) ∧
  (∀ s : State, s.ladder.mode = .start → 2000 ≤ s.ladder.startupTimer → s.demandFreshness = .absent →
    exec .startupTimerLimit s = .next { s with ladder := { s.ladder with noDemandCause := true } } ∧
    s.BackupCaused) ∧
  (∀ s : State, s.ladder.mode = .backup → s.demandFreshness = .fresh → 990 ≤ s.ladder.recoveryTimer →
    exec .recoveryTimerFull s = .next { s with ladder := { s.ladder with recoveryTimer := 1000 } })

/-- The attained mode changes at a ladder period and at a reset, and at no other command (R1, R2). -/
def Obligations.ModeChangesOnlyByLadderOrReset : Prop :=
  ∀ (c : Instr) (s t : State), exec c s = .next t → t.ladder.mode ≠ s.ladder.mode →
    c = .ladderPeriod ∨ (∃ pins, c = .powerOnReset pins) ∨ ∃ pins, c = .serviceRestart pins

/-! ## Frames from the link -/

/-- STATE_FRAME from a peer (R22, R23), in either class: a good payload, of 9 bytes or of 11 with the supply, its role,
mode, load, speed and supply in range, replaces the entry, FRESH with age 0, and ends PEER_LOST; a malformed one is counted
and leaves the entry. -/
def Obligations.StateFrameRefreshesPeer : Prop :=
  ∀ (promoted : Bool) (addr : Address) (p : List Byte) (s : State), s.Hears addr → p.length ≤ 14 →
    (StateGood p → ∃ r, StateCarries p r ∧
      exec (.stateFrame promoted addr p) s = .next { s with
        link := s.heardLink
        peerView := { s.peerView with peers := s.peerView.peers.set addr.sender ((s.peer addr.sender).heardAs r) }
        faults := s.faults.finish .peerLost addr.sender.val }) ∧
    (¬StateGood p →
      exec (.stateFrame promoted addr p) s = .next { s with
        link := s.heardLink
        peerView := { s.peerView with malformed := bump s.peerView.malformed } })

/-- DEMAND_FRAME from the cab station (R27, R28, R48, R68, R169): a payload of 5 bytes with D at most 800 replaces the
record, FRESH with age 0, and ends both DEMAND_LOST faults; a set reverse flag empties the path queue, with the joint
monitor told; a RUNNING sweep watches D. A malformed one is counted. What the clearing leaves of the last mismatch is log
entry 33. -/
def Obligations.DemandFrameReplacesRecord : Prop :=
  ∀ (addr : Address) (p : List Byte) (s : State), s.Hears addr → addr.sender = s.cfg.cabStation → p.length ≤ 14 →
    (p.length = 5 → pairAt p 0 ≤ 800 → ∃ t v, exec (.demandFrame addr p) s = .next t ∧ DemandCarries p v ∧
      State.SweepWatches { s with
        link := s.heardLink
        peerView := { s.peerView with demand := { s.peerView.demand with
          freshness := .fresh
          age := 0
          values := v } }
        ladder := { s.ladder with noDemandCause := false }
        faults := (s.faults.finish .demandLost 0).finish .demandLost 1
        tracker := if v.rev = true then { s.tracker with
            accumulator := if s.isCab = true then 0 else s.tracker.accumulator
            queue := if s.hasPath = true then [] else s.tracker.queue
            rejectionRun := if s.hasPath = true then 0 else s.tracker.rejectionRun }
          else s.tracker
        joint := if v.rev = true ∧ s.hasJoint = true then s.joint.afterClearing else s.joint } t) ∧
    (p.length ≠ 5 ∨ 800 < pairAt p 0 →
      exec (.demandFrame addr p) s = .next { s with
        link := s.heardLink
        peerView := { s.peerView with malformed := bump s.peerView.malformed } })

/-- ALERT_FRAME (R31): a good ALERT, two bytes with a code of the table and its qualifier in range, refreshes its entry,
or is added while there is a free place, or replaces in a full set the entry of the greatest age, among equals the one with
the lowest code number, then the lowest qualifier, then the lowest sender; a malformed one is counted. -/
def Obligations.AlertFrameRefreshesSet : Prop :=
  ∀ (addr : Address) (p : List Byte) (s : State), s.Hears addr → p.length ≤ 14 →
    (∀ code q, AlertCarries p code q → ∃ t, exec (.alertFrame addr p) s = .next t ∧
      t = { s with
        link := s.heardLink
        peerView := { s.peerView with
          alerts := t.peerView.alerts
          displaced := t.peerView.displaced } } ∧
      ((∃ a ∈ s.peerView.alerts, a.code = code ∧ a.qualifier = q ∧ a.sender = addr.sender) →
        t.peerView.alerts = s.peerView.alerts.map (fun a =>
          if a.code = code ∧ a.qualifier = q ∧ a.sender = addr.sender then { a with age := 0 } else a) ∧
        t.peerView.displaced = s.peerView.displaced) ∧
      ((∀ a ∈ s.peerView.alerts, ¬(a.code = code ∧ a.qualifier = q ∧ a.sender = addr.sender)) →
        (s.peerView.alerts.length < 16 →
          t.peerView.alerts = s.peerView.alerts ++ [⟨code, q, addr.sender, 0⟩] ∧
          t.peerView.displaced = s.peerView.displaced) ∧
        (16 ≤ s.peerView.alerts.length → ∃ v ∈ s.peerView.alerts,
          (∀ a ∈ s.peerView.alerts, a ≠ v → v.goesBefore a) ∧
          t.peerView.alerts = s.peerView.alerts.erase v ++ [⟨code, q, addr.sender, 0⟩] ∧
          t.peerView.displaced = bump s.peerView.displaced))) ∧
    ((∀ code q, ¬AlertCarries p code q) →
      exec (.alertFrame addr p) s = .next { s with
        link := s.heardLink
        peerView := { s.peerView with malformed := bump s.peerView.malformed } })

/-- TRACE_FRAME from the cab station (R41 to R47, R57, R65 to R67): on a station with no path queue it does nothing; a
wrong length is counted; in BACKUP and under reverse it is discarded. Otherwise it is taken by its gap from the newest
index: appended, alone on an empty queue, with the missing entries filled in, as a break, or ignored. That a gap
above 8 sets the rejection run to 0 and the older mark of the eighth ignored arrival are log entry 19; that the
expected angle and the last mismatch are absent after a break is log entry 33. Both angles are rounded half away from zero.
-/
def Obligations.TraceFrameActsOnItsGap : Prop :=
  (∀ (n : Int) (d : Nat), 0 < d → RoundsTo n d (roundHalfAway n d)) ∧
  ∀ (addr : Address) (s : State), s.Hears addr → addr.sender = s.cfg.cabStation →
    (∀ p : List Byte, p.length ≤ 14 →
      (s.hasPath = false → exec (.traceFrame addr p) s = .next { s with link := s.heardLink }) ∧
      (s.hasPath = true → p.length ≠ 4 → exec (.traceFrame addr p) s = .next { s with
        link := s.heardLink
        tracker := { s.tracker with malformed := bump s.tracker.malformed } }) ∧
      (s.hasPath = true → p.length = 4 → s.ladder.mode = .backup ∨ s.demand.rev = true →
        exec (.traceFrame addr p) s = .next { s with
          link := s.heardLink
          tracker := { s.tracker with discarded := bump s.tracker.discarded } })) ∧
    ∀ (i : Half) (b0 b1 : Byte) (kappa : Int), s.hasPath = true → s.ladder.mode ≠ .backup → s.demand.rev = false →
      s.tracker.PathOk → kappa = clampInt (-1000) 1000 (asSigned 16 (256 * b0.toNat + b1.toNat)) →
      ∃ t, exec (.traceFrame addr (bytesOf 2 i.toNat ++ [b0, b1])) s = .next t ∧
        t = { s with
          link := t.link
          tracker := t.tracker
          steering := t.steering
          joint := t.joint
          faults := t.faults
          service := t.service } ∧
        s.depthNeeded = max (if s.hasSteering then s.cfg.axleOffset else 0) (if s.hasJoint then s.cfg.jointOffset else 0) + 1 ∧
        (s.tracker.queue = [] → s.PathGrew t i [⟨i, kappa, false⟩] ∧ t.tracker.filled = s.tracker.filled) ∧
        (∀ tail, s.tracker.queue.getLast? = some tail →
          (gapOf i tail.index = 1 → s.PathGrew t i [⟨i, kappa, false⟩] ∧ t.tracker.filled = s.tracker.filled) ∧
          (2 ≤ gapOf i tail.index → gapOf i tail.index ≤ 8 →
            s.PathGrew t i ((List.range ((gapOf i tail.index).toNat - 1)).map
              (fun k => ⟨tail.index + BitVec.ofNat 16 (k + 1), tail.kappa, true⟩) ++ [⟨i, kappa, false⟩]) ∧
            t.tracker.filled = bumpBy ((gapOf i tail.index).toNat - 1) s.tracker.filled) ∧
          (8 < gapOf i tail.index → t = { s with
            link := s.heardLink
            tracker := { s.tracker with
              queue := [⟨i, kappa, false⟩]
              rejectionRun := 0
              broken := true }
            faults := s.faults.raise .traceBroken 0
            joint := if s.hasJoint then s.joint.afterClearing else s.joint }) ∧
          (gapOf i tail.index ≤ 0 → s.tracker.rejectionRun < 7 → t = { s with
            link := s.heardLink
            tracker := { s.tracker with
              older := bump s.tracker.older
              rejectionRun := s.tracker.rejectionRun + 1 } }) ∧
          (gapOf i tail.index ≤ 0 → s.tracker.rejectionRun = 7 → t = { s with
            link := s.heardLink
            tracker := { s.tracker with
              queue := [⟨i, kappa, false⟩]
              rejectionRun := 0
              broken := true }
            faults := s.faults.raise .traceBroken 1
            joint := if s.hasJoint then s.joint.afterClearing else s.joint }))

/-- REJECTION_RUN_BREAK (R46): the ignored arrival that would bring the run to 8 becomes the only entry, and
TRACE_BROKEN is raised with qualifier 1; the joint monitor is told. As a command of its own this is the model's
reading (log entry 1), and so are the older mark, left as it was (log entry 19), and the expected angle and the last
mismatch, absent after the break (log entry 33). -/
def Obligations.EighthIgnoredArrivalBreaksPath : Prop :=
  ∀ (i : Half) (k : Int) (s : State) (tail : Sample), s.hasPath = true → s.ladder.mode ≠ .backup → s.demand.rev = false →
    s.tracker.rejectionRun = 7 → s.tracker.queue.getLast? = some tail → gapOf i tail.index ≤ 0 →
    exec (.rejectionRunBreak i k) s = .next { s with
      tracker := { s.tracker with
        queue := [⟨i, clampInt (-1000) 1000 k, false⟩]
        rejectionRun := 0
        broken := true }
      faults := s.faults.raise .traceBroken 1
      joint := if s.hasJoint then s.joint.afterClearing else s.joint }

/-- A frame with a right check, whichever command brings it, is acknowledged, counted and screened (R20, R152, R153); before
the configuration is held it is acknowledged and discarded (R148; uncounted, log entry 21). SERVICE_REPLY_FRAME from
another station goes to no block (R20). Screening (R20, R34, R35): a frame with the own number, of any kind and to any
destination, makes the station listen-only, empties the queue but for an entry in flight, frees the slot of a
reply that is cleared (R157, R160), and raises DUPLICATE_STATION, at each such frame again (log entry 26); a stranger's
frame, and a DEMAND or TRACE of a station that is not the cab station, is counted and set aside. What the slot holds while a
sweep's reply is pending is log entry 17, a reply held back and lost log entry 27, the count of recessive bits log entry
22. -/
def Obligations.ScreeningSetsFramesAside : Prop :=
  (∀ (addr : Address) (p : List Byte) (s : State), s.loaded = true → p.length ≤ 14 →
    (∀ promoted, exec (.stateFrame promoted addr p) s = .next (State.screen { s with link := s.heardLink } .state addr p)) ∧
    exec (.demandFrame addr p) s = .next (State.screen { s with link := s.heardLink } .demand addr p) ∧
    exec (.alertFrame addr p) s = .next (State.screen { s with link := s.heardLink } .alert addr p) ∧
    exec (.traceFrame addr p) s = .next (State.screen { s with link := s.heardLink } .trace addr p) ∧
    exec (.serviceReplyFrame addr p) s = .next (State.screen { s with link := s.heardLink } .serviceReply addr p) ∧
    exec (.unknownRequest addr p) s = .next (State.screen { s with link := s.heardLink } .serviceReq addr p) ∧
    (p.length ≤ 13 →
      exec (.snapshot addr p) s = .next (State.screen { s with link := s.heardLink } .serviceReq addr (1 :: p)) ∧
      exec (.readFaults addr p) s = .next (State.screen { s with link := s.heardLink } .serviceReq addr (2 :: p)) ∧
      exec (.clearFaults addr p) s = .next (State.screen { s with link := s.heardLink } .serviceReq addr (3 :: p)) ∧
      exec (.calibrateHeight addr p) s = .next (State.screen { s with link := s.heardLink } .serviceReq addr (4 :: p)) ∧
      exec (.coilSweep addr p) s = .next (State.screen { s with link := s.heardLink } .serviceReq addr (5 :: p)) ∧
      exec (.restart addr p) s = .next (State.screen { s with link := s.heardLink } .serviceReq addr (6 :: p)))) ∧
  (∀ (addr : Address) (p : List Byte) (c : Instr) (s : State), s.loaded = false →
    (p.length ≤ 14 ∧ c ∈ [Instr.stateFrame true addr p, .stateFrame false addr p, .demandFrame addr p, .alertFrame addr p,
      .traceFrame addr p, .serviceReplyFrame addr p, .unknownRequest addr p]) ∨
    (p.length ≤ 13 ∧ c ∈ [Instr.snapshot addr p, .readFaults addr p, .clearFaults addr p, .calibrateHeight addr p,
      .coilSweep addr p, .restart addr p]) →
    exec c s = .next { s with link := { s.link with
      ackDriven := !s.link.listenOnly
      recessive := 0 } }) ∧
  (∀ (addr : Address) (p : List Byte) (s : State), s.Hears addr → p.length ≤ 14 →
    exec (.serviceReplyFrame addr p) s = .next { s with link := s.heardLink }) ∧
  (∀ (k : Kind) (addr : Address) (p : List Byte) (s : State),
    (addr.sender = s.own → s.screen k addr p = { s with
      link := Link.updateShed { s.link with
        queue := s.link.queue.filter fun e => e.inFlight
        held := none
        listenOnly := true }
      service := if s.link.listenOnly = false ∧ (∃ e ∈ s.link.queue, e.kind = .serviceReply ∧ e.inFlight = false) then
          { s.service with
            slot := if s.service.sweepFor.isSome then .waiting else .free
            heldReply := none }
        else s.service
      peerView := { s.peerView with duplicate := true }
      faults := s.faults.raise .duplicateStation s.own.val }) ∧
    (addr.sender ≠ s.own → s.present addr.sender = false → k ≠ .serviceReq →
      s.screen k addr p = { s with peerView := { s.peerView with stranger := bump s.peerView.stranger } }) ∧
    (addr.sender ≠ s.own → s.present addr.sender = true → s.forUs addr.dest = true → addr.sender ≠ s.cfg.cabStation →
      (k = .demand → s.screen k addr p =
        { s with peerView := { s.peerView with foreignDemand := bump s.peerView.foreignDemand } }) ∧
      (k = .trace → s.screen k addr p =
        { s with peerView := { s.peerView with foreignTrace := bump s.peerView.foreignTrace } })) ∧
    (addr.sender ≠ s.own → s.present addr.sender = true → s.forUs addr.dest = false → s.screen k addr p = s))

/-- FRAME_CHECK_ERROR, FRAME_FORMAT_ERROR and FRAME_REJECTED (R152, R153): one counter each; only a frame with a right
check is acknowledged, whatever its header. That the counters count from the reset, before the configuration is held too,
is log entry 21, what the count of recessive bits holds log entry 22. -/
def Obligations.DamagedFramesAreCounted : Prop :=
  ∀ s : State,
    exec .frameCheckError s = .next { s with link := { s.link with
      checkError := bump s.link.checkError
      ackDriven := false
      recessive := 0 } } ∧
    exec .frameFormatError s = .next { s with link := { s.link with
      format := bump s.link.format
      ackDriven := false
      recessive := 0 } } ∧
    (∀ (h : RawHead) (p : List Byte), p.length ≤ 14 → headGood h = false →
      exec (.frameRejected h p) s = .next { s with link := { s.link with
        rejected := bump s.link.rejected
        ackDriven := !s.link.listenOnly
        recessive := 0 } }) ∧
    (∀ h : RawHead, headGood h = true ↔ ∃ k : Kind, k.code = h.kind.val ∧
      (h.cls.val = k.cls ∨ (k = .state ∧ h.cls.val = 1)) ∧ h.parity = kindParity h.kind.val ∧ h.dest.val ≤ 8)

/-! ## Ages -/

/-- PEER_STALE, PEER_LOST and PEER_ABSENT_LIMIT (R23): each limit of a peer entry's age, once it is passed. That the
ABSENT limit is reported once is log entry 5. -/
def Obligations.PeerEntryPassesItsLimits : Prop :=
  ∀ (n : Fin 8) (s : State), s.isPeer n = true →
    ((s.peer n).freshness = .fresh → 60 < (s.peer n).age →
      exec (.peerStale n) s = .next { s with peerView := { s.peerView with
        peers := s.peerView.peers.set n { s.peer n with freshness := .stale } } }) ∧
    ((s.peer n).freshness = .fresh ∨ (s.peer n).freshness = .stale → 200 < (s.peer n).age →
      exec (.peerLost n) s = .next { s with
        peerView := { s.peerView with peers := s.peerView.peers.set n { s.peer n with freshness := .lost } }
        faults := s.faults.raise .peerLost n.val }) ∧
    (s.loaded = true → (s.peer n).freshness = .absent → 2000 < (s.peer n).age → (s.peer n).limitReported = false →
      exec (.peerAbsentLimit n) s = .next { s with
        peerView := { s.peerView with peers := s.peerView.peers.set n { s.peer n with limitReported := true } }
        faults := s.faults.raise .peerLost n.val })

/-- DEMAND_STALE, DEMAND_LOST and DEMAND_ABSENT_LIMIT (R28): each limit of the record's age. A running sweep is aborted
when the record is lost (R169). That the ABSENT limit is reported once is log entry 5. -/
def Obligations.DemandRecordPassesItsLimits : Prop :=
  ∀ s : State,
    (s.demandFreshness = .fresh → 30 < s.peerView.demand.age →
      exec .demandStale s = .next { s with peerView := { s.peerView with
        demand := { s.peerView.demand with freshness := .stale } } }) ∧
    (s.demandFreshness = .fresh ∨ s.demandFreshness = .stale → 100 < s.peerView.demand.age →
      ∃ t v, exec .demandLost s = .next t ∧
        v = { s with
          peerView := { s.peerView with demand := { s.peerView.demand with freshness := .lost } }
          faults := s.faults.raise .demandLost 0 } ∧
        (s.sweeping = false → t = v) ∧ (s.sweeping = true → v.SweepEnds t .aborted)) ∧
    (s.demandFreshness = .absent → 2000 ≤ s.peerView.demand.age → s.peerView.demand.limitReported = false →
      exec .demandAbsentLimit s = .next { s with
        peerView := { s.peerView with demand := { s.peerView.demand with limitReported := true } }
        faults := s.faults.raise .demandLost 1 })

/-- ALERT_EXPIRY (R32): an entry whose age has passed 60 ms is removed, and no other; a matching ALERT is present with
age 0 after its arrival, whether its entry had expired or not; an entry stays when its sender's peer entry goes STALE
or LOST. -/
def Obligations.AlertEntriesExpire : Prop :=
  (∀ (code : AlertCode) (q : Byte) (n : Fin 8) (s : State), ∃ t, exec (.alertExpiry code q n) s = .next t ∧
    t = { s with peerView := { s.peerView with alerts := t.peerView.alerts } } ∧
    t.peerView.alerts.Sublist s.peerView.alerts ∧
    ∀ a ∈ s.peerView.alerts, (a ∈ t.peerView.alerts ↔ ¬(a.code = code ∧ a.qualifier = q ∧ a.sender = n ∧ 60 < a.age))) ∧
  (∀ (addr : Address) (p : List Byte) (code : AlertCode) (q : Byte) (s : State), s.Hears addr →
    p.length ≤ 14 → AlertCarries p code q →
    ∃ t, exec (.alertFrame addr p) s = .next t ∧ ⟨code, q, addr.sender, 0⟩ ∈ t.peerView.alerts) ∧
  (∀ (n : Fin 8) (s : State),
    (∃ t, exec (.peerStale n) s = .next t ∧ t.peerView.alerts = s.peerView.alerts) ∧
    ∃ t, exec (.peerLost n) s = .next t ∧ t.peerView.alerts = s.peerView.alerts)

/-! ## Wheels, trace and path -/

/-- WHEEL_PULSE (R36, R37, R38, R95): the wheel's count grows, up to 255; on a CAB station under reverse the accumulator is
0, and out of it a pulse that does not complete the step joins the accumulator, and one that completes it does what
PATH_STEP does (PathStepTakesASample). -/
def Obligations.WheelPulseIsCounted : Prop :=
  ∀ (side : Side) (sta : Microvolt) (s : State), ∃ t, exec (.wheelPulse side sta) s = .next t ∧
    t = { s with
      slip := t.slip
      tracker := t.tracker
      link := t.link
      faults := t.faults
      service := t.service } ∧
    (atSide t.slip.wheels side) = { atSide s.slip.wheels side with count := min 255 ((atSide s.slip.wheels side).count + 1) } ∧
    atSide t.slip.wheels (otherSide side) = atSide s.slip.wheels (otherSide side) ∧
    (s.isCab = false → t = { s with slip := t.slip }) ∧
    (s.isCab = true → s.demand.rev = true → t = { s with
      slip := t.slip
      tracker := { s.tracker with accumulator := 0 } }) ∧
    (s.isCab = true → s.demand.rev = false → s.tracker.accumulator + 1 < 2 * s.cfg.pulsesPerStep → t = { s with
      slip := t.slip
      tracker := { s.tracker with accumulator := s.tracker.accumulator + 1 } }) ∧
    (s.isCab = true → s.demand.rev = false → 2 * s.cfg.pulsesPerStep ≤ s.tracker.accumulator + 1 →
      exec (.pathStep sta) { s with slip := t.slip } = .next t)

/-- PATH_STEP (R36, R37, R39): the pulse that completes the step carries the remainder on and counts the index up; a
valid angle offers a TRACE with the new index and κ to the queue (R156; StateIsQueuedAndPromoted says what becomes of it),
an invalid one raises STEER_TRACK with qualifier 2. What a level on STA reads as, and κ from the angle. As a command of its
own this is the model's reading (log entry 1). -/
def Obligations.PathStepTakesASample : Prop :=
  (∀ v : Microvolt, SteerReads v) ∧
  ∀ (sta : Microvolt) (s : State), s.isCab = true → s.demand.rev = false →
    2 * s.cfg.pulsesPerStep ≤ s.tracker.accumulator + 1 →
    ∃ t v, exec (.pathStep sta) s = .next t ∧
      v = { s with tracker := { s.tracker with
        traceIndex := s.tracker.traceIndex + 1
        accumulator := s.tracker.accumulator + 1 - 2 * s.cfg.pulsesPerStep } } ∧
      (steerReading sta = none → t = { v with faults := s.faults.raise .steerTrack 2 }) ∧
      (∀ a, steerReading sta = some a → ∃ kappa : Int,
        (0 < s.cfg.wheelbase → ∃ k, RoundsTo (a * 17453) (10 * s.cfg.wheelbase) k ∧ kappa = max (-1000) (min 1000 k)) ∧
        t = State.offer { v with faults := s.faults.finish .steerTrack 2 }
          { kind := .trace, cls := 1, dest := 8,
            payload := bytesOf 2 (s.tracker.traceIndex + 1).toNat ++ signedBytesOf 2 kappa })

/-- TRACKER_PERIOD (R49, R68): in BACKUP a queue that is not empty is emptied, the run is 0 and the joint monitor is told,
with no fault; otherwise nothing changes; that the clearing makes the last mismatch absent in every case is log entry 33
(DEDUCED). A TRACE_FRAME in BACKUP leaves an empty queue empty, and out of BACKUP the first TRACE that arrives is the new
path (R42, R43). -/
def Obligations.TrackerPeriodEmptiesQueueInBackup : Prop :=
  ∀ s : State,
    (s.ladder.mode = .backup → s.tracker.queue ≠ [] → s.hasPath = true →
      exec .trackerPeriod s = .next { s with
        tracker := { s.tracker with
          queue := []
          rejectionRun := 0 }
        joint := if s.hasJoint then s.joint.afterClearing else s.joint }) ∧
    (s.ladder.mode ≠ .backup ∨ s.tracker.queue = [] → exec .trackerPeriod s = .next s) ∧
    (∀ (addr : Address) (p : List Byte), s.ladder.mode = .backup → s.tracker.queue = [] →
      ∃ t, exec (.traceFrame addr p) s = .next t ∧ t.tracker.queue = []) ∧
    (∀ (addr : Address) (i : Half) (b0 b1 : Byte), s.Hears addr → addr.sender = s.cfg.cabStation → s.hasPath = true →
      s.ladder.mode ≠ .backup → s.demand.rev = false → s.tracker.queue = [] →
      ∃ t e, exec (.traceFrame addr (bytesOf 2 i.toNat ++ [b0, b1])) s = .next t ∧ t.tracker.queue = [e] ∧ e.index = i)

/-! ## Steering -/

/-- STEERING_PERIOD on a STEER station (R53 to R56, R58 to R61): the fade and the target; the command moves toward the
target by at most the rate limit; the lock valve and the bridge are driven out of PINNED with no sweep RUNNING, the
bridge toward the command. A FAIL of the lock valve coil, or else an angle out of range, pins the axle, and otherwise
the state goes between HOME and FOLLOW and the tracking check counts, is held at 0 by a sweep, or pins the axle at
its twentieth period; PINNED stays. What a level on STA reads as (R39). Coil 9 is the lock valve's (R61; out of a sweep, log
entry 31). That the coil is looked at before the angle is log entry 16, that the target keeps its value at the period whose
tracking check pins the axle log entry 40. -/
def Obligations.SteeringPeriodRampsCommand : Prop :=
  (∀ v : Microvolt, SteerReads v) ∧
  ∀ (sta : Microvolt) (s : State), s.hasSteering = true → ∃ t, exec (.steeringPeriod sta) s = .next t ∧
    t = { s with
      steering := t.steering
      link := t.link
      faults := t.faults
      service := t.service } ∧
    t.steering.measured = steerReading sta ∧
    (t.steering.fade : Int) = clampInt 0 1000
      ((((s.cfg.fadeEnd : Int) - s.ownSpeed) * 1000).tdiv ((s.cfg.fadeEnd : Int) - s.cfg.fadeStart)) ∧
    t.steering.command =
      (if (t.steering.target - s.steering.command).natAbs ≤ s.cfg.rateLimit then t.steering.target
      else if s.steering.command < t.steering.target then s.steering.command + s.cfg.rateLimit
      else s.steering.command - s.cfg.rateLimit) ∧
    (t.steering.lockOn = true ↔ t.steering.state ≠ .pinned ∧ s.sweeping = false) ∧
    (s.sweeping = false → (t.coilOn 9 = true ↔ t.steering.lockOn = true)) ∧
    (t.steering.actP = true ↔ t.steering.state ≠ .pinned ∧ s.sweeping = false ∧
      ∃ m, steerReading sta = some m ∧ m + 10 < t.steering.command) ∧
    (t.steering.actN = true ↔ t.steering.state ≠ .pinned ∧ s.sweeping = false ∧
      ∃ m, steerReading sta = some m ∧ t.steering.command < m - 10) ∧
    t.steering.dpSeen = t.steering.dp ∧ t.steering.trackingSeen = t.steering.tracking ∧
    (steerReading sta = none → t.faults = s.faults.raise .steerTrack 1) ∧
    (s.steering.state = .pinned ∨ s.coilFailed 9 = true → ∀ m, steerReading sta = some m →
      t.faults = s.faults.finish .steerTrack 1) ∧
    (s.steering.state = .pinned → t.steering.state = .pinned ∧ t.steering.cause = s.steering.cause ∧
      t.steering.target = 0 ∧ t.steering.dp = s.steering.dp ∧ t.steering.tracking = s.steering.tracking ∧
      t.steering.alertTimer = s.steering.alertTimer ∧ t.link = s.link ∧ t.service = s.service) ∧
    (s.steering.state ≠ .pinned → s.coilFailed 9 = true → s.PinsAxle t .coil 2 ∧ t.steering.target = 0) ∧
    (s.steering.state ≠ .pinned → s.coilFailed 9 = false → steerReading sta = none →
      s.PinsAxle t .sensor 1 ∧ t.steering.target = 0) ∧
    (s.steering.state ≠ .pinned → s.coilFailed 9 = false → ∀ m, steerReading sta = some m →
      ∃ state dp, s.FollowsPath state dp ∧
        t.steering.target = (if state = .follow then (dp * t.steering.fade).tdiv 1000 else 0) ∧
        (s.sweeping = true ∨ (t.steering.command - m).natAbs ≤ 300 ∨ s.steering.tracking < 19 →
          t.steering.state = state ∧ t.steering.dp = dp ∧ t.steering.cause = s.steering.cause ∧
          t.steering.alertTimer = s.steering.alertTimer ∧ t.link = s.link ∧ t.service = s.service ∧
          t.faults = s.faults.finish .steerTrack 1) ∧
        (s.sweeping = true ∨ (t.steering.command - m).natAbs ≤ 300 → t.steering.tracking = 0) ∧
        (s.sweeping = false → 300 < (t.steering.command - m).natAbs → s.steering.tracking < 19 →
          t.steering.tracking = s.steering.tracking + 1) ∧
        (s.sweeping = false → 300 < (t.steering.command - m).natAbs → 19 ≤ s.steering.tracking →
          s.PinsAxle t .tracking 0 ∧ t.faults = (s.faults.finish .steerTrack 1).raise .steerTrack 0))

/-- TRACKING_FAULT (R56, R60): the twentieth period off the command by more than 300 cd raises STEER_TRACK with
qualifier 0 and pins the axle with its outputs off. As a command of its own this is the model's reading (log entry 1), and
so is the target, left as it was (log entry 40). -/
def Obligations.TrackingFaultPinsTheAxle : Prop :=
  ∀ (s : State) (m : Int), s.hasSteering = true → s.steering.state ≠ .pinned → s.sweeping = false →
    s.steering.measured = some m → 300 < (s.steering.command - m).natAbs → s.steering.tracking = 19 →
    ∃ t, exec .trackingFault s = .next t ∧
      t = { s with
        steering := { s.steering with
          state := .pinned
          cause := .tracking
          dp := 0
          dpSeen := 0
          tracking := 0
          trackingSeen := 0
          alertTimer := 20
          lockOn := false
          actP := false
          actN := false }
        faults := s.faults.raise .steerTrack 0
        link := t.link
        service := t.service } ∧
      ({ s with faults := t.faults }.offerAlert .steerPinned 0).link = t.link

/-- The 20 ms repeats of the five alerts (R56, R70, R108, R139): while its condition lasts and its timer has run out,
the timer starts again and the ALERT is offered; in its absence, and before the timer has run out, nothing changes. An
ALERT offered on a station that may send, with room and no such alert queued, joins at the tail in class 0 to all
stations; on a listen-only station nothing joins (R156, R160). As commands of their own the repeats are the model's
reading (log entry 1). -/
def Obligations.AlertsAreRepeatedAndQueued : Prop :=
  (∀ s : State,
    (s.joint.jackknife = true → s.joint.jackTimer = 0 → exec .jackknifeAlertRepeat s =
      .next ({ s with joint := { s.joint with jackTimer := 20 } }.offerAlert .jackknife s.jointNumber)) ∧
    (s.joint.limit = true → s.joint.limitTimer = 0 → exec .jointLimitAlertRepeat s =
      .next ({ s with joint := { s.joint with limitTimer := 20 } }.offerAlert .jointLimit s.jointNumber)) ∧
    (s.steering.state = .pinned → s.steering.alertTimer = 0 → exec .steerPinnedRepeat s =
      .next ({ s with steering := { s.steering with alertTimer := 20 } }.offerAlert .steerPinned
        s.steering.cause.qualifier)) ∧
    (∀ side, (atSide s.slip.wheels side).degraded = true → (atSide s.slip.wheels side).alertTimer = 0 →
      exec (.brakeDegradedRepeat side) s =
        .next ((s.putWheel side { atSide s.slip.wheels side with alertTimer := 20 }).offerAlert .brakeDegraded
          (sideNumber side))) ∧
    (∀ slot e, s.entrance slot = some e → e.state = .breach → 50 < s.ownSpeed → e.alerting = true → e.alertTimer = 0 →
      exec (.entranceBreachRepeat slot) s =
        .next ((s.putEntrance slot { e with alertTimer := 20 }).offerAlert .entranceBreach (s.globalNumber slot))) ∧
    (s.joint.jackknife = false ∨ s.joint.jackTimer ≠ 0 → exec .jackknifeAlertRepeat s = .next s) ∧
    (s.joint.limit = false ∨ s.joint.limitTimer ≠ 0 → exec .jointLimitAlertRepeat s = .next s) ∧
    (s.steering.state ≠ .pinned ∨ s.steering.alertTimer ≠ 0 → exec .steerPinnedRepeat s = .next s) ∧
    (∀ side, (atSide s.slip.wheels side).degraded = false ∨ (atSide s.slip.wheels side).alertTimer ≠ 0 →
      exec (.brakeDegradedRepeat side) s = .next s) ∧
    (∀ slot, s.entrance slot = none → exec (.entranceBreachRepeat slot) s = .next s) ∧
    (∀ slot e, s.entrance slot = some e →
      e.state ≠ .breach ∨ s.ownSpeed ≤ 50 ∨ e.alerting = false ∨ e.alertTimer ≠ 0 →
      exec (.entranceBreachRepeat slot) s = .next s)) ∧
  (∀ (s : State) (code : AlertCode) (q : Nat),
    (s.offerAlert code q =
      s.offer { kind := .alert, cls := 0, dest := 8, payload := [BitVec.ofNat 8 (alertNumber code), BitVec.ofNat 8 q] }) ∧
    (s.offerAlert code q = { s with
      link := (s.offerAlert code q).link
      service := (s.offerAlert code q).service }) ∧
    (s.link.listenOnly = true → s.offerAlert code q = s) ∧
    (s.link.listenOnly = false → s.link.queue.length < 8 →
      (∀ e ∈ s.link.queue, ¬(e.kind = .alert ∧ e.payload = [BitVec.ofNat 8 (alertNumber code), BitVec.ofNat 8 q])) →
      s.offerAlert code q = { s with link := Link.updateShed { s.link with queue := s.link.queue ++
        [{ kind := .alert, cls := 0, dest := 8, payload := [BitVec.ofNat 8 (alertNumber code), BitVec.ofNat 8 q] }] } }))

/-! ## The joint monitor -/

/-- JOINT_PERIOD on a station with a joint monitor (R63, R64, R69, R70): a reading out of range makes the sensor INVALID with
both flags clear and both counters 0, and raises JOINT_SENSOR; a reading of a VALID sensor is the new angle, and so is the
tenth of an INVALID one, which ends JOINT_SENSOR: on either LIMIT is set at 5200 cd or more, with its first alert, and
cleared below 4800, and no other field changes; a reading of an INVALID sensor short of the tenth counts toward its recovery
and does nothing else. What a level on JNT reads as. The count of a recovered sensor is log entry 13. -/
def Obligations.JointPeriodReadsAndTestsLimit : Prop :=
  (∀ v : Microvolt, JointReads v) ∧
  ∀ (v : Microvolt) (s : State), s.hasJoint = true → ∃ t, exec (.jointPeriod v) s = .next t ∧
    (∀ j, s.cfg.joint = some j → s.jointNumber = j.val) ∧
    (jointReading v = none → t = { s with
      joint := { s.joint with
        angle := { valid := false, recovery := 0, value := none }
        lastMismatch := none
        jackknife := false
        limit := false
        mismatch := 0
        clear := 0
        jackTimer := 0
        limitTimer := 0 }
      faults := s.faults.raise .jointSensor s.jointNumber }) ∧
    (∀ a, jointReading v = some a → s.joint.angle.valid = true →
      State.LimitTested { s with joint := { s.joint with angle := { s.joint.angle with value := some a } } } t a) ∧
    (∀ a, jointReading v = some a → s.joint.angle.valid = false → s.joint.angle.recovery < 9 →
      t = { s with joint := { s.joint with angle := { s.joint.angle with recovery := s.joint.angle.recovery + 1 } } }) ∧
    (∀ a, jointReading v = some a → s.joint.angle.valid = false → 9 ≤ s.joint.angle.recovery →
      State.LimitTested { s with
        joint := { s.joint with angle := { valid := true, recovery := 10, value := some a } }
        faults := s.faults.finish .jointSensor s.jointNumber } t a)

/-- JACKKNIFE_SET and JACKKNIFE_CLEAR (R66, R67): the fifth mismatch above the threshold sets the flag and offers the
first alert; the twentieth below half of it clears the flag. As commands of their own these are the model's reading
(log entry 1). -/
def Obligations.JackknifeIsSetAndCleared : Prop :=
  ∀ (s : State) (m : Nat), s.hasJoint = true → s.joint.angle.valid = true → s.joint.lastMismatch = some m →
    (s.joint.jackknife = false → s.joint.mismatch = 4 → s.cfg.jackThreshold < m →
      exec .jackknifeSet s = .next ({ s with joint := { s.joint with
        jackknife := true
        mismatch := 0
        clear := 0
        jackTimer := 20 } }.offerAlert .jackknife s.jointNumber)) ∧
    (s.joint.jackknife = true → s.joint.clear = 19 → m < s.cfg.jackThreshold / 2 →
      exec .jackknifeClear s = .next { s with joint := { s.joint with
        jackknife := false
        mismatch := 0
        clear := 0
        jackTimer := 0 } })

/-- The five sensor recoveries (R64, R81, R111, R118, R122): the tenth valid reading in a row makes the sensor VALID
with that reading, and ends its fault; the joint's is tested against LIMIT at once (R69). What a level on each input reads as
(R39, R63, R81, R110, R118, R122). As commands of their own, and the count of 10 afterwards, these are the model's reading
(log entries 1 and 13). -/
def Obligations.SensorsRecoverAtTheTenthReading : Prop :=
  (∀ v : Microvolt, JointReads v ∧ ChamberReads v ∧ HeightReads v ∧ BellowsReads v ∧ SupplyReads v) ∧
  ∀ s : State,
    (∀ v a, s.hasJoint = true → jointReading v = some a → s.joint.angle.valid = false → s.joint.angle.recovery = 9 →
      ∃ t, exec (.jointSensorRecovery v) s = .next t ∧
        State.LimitTested { s with
          joint := { s.joint with angle := { valid := true, recovery := 10, value := some a } }
          faults := s.faults.finish .jointSensor s.jointNumber } t a) ∧
    (∀ side v a, s.loaded = true → chamberReading v = some a → (atSide s.brake.chamber side).valid = false →
      (atSide s.brake.chamber side).recovery = 9 →
      exec (.chamberSensorRecovery side v) s = .next { s with
        brake := { s.brake with chamber := putSide s.brake.chamber { valid := true, recovery := 10, value := some a } side }
        faults := s.faults.finish .pressureSensor (sideNumber side) }) ∧
    (∀ side v a, s.loaded = true → heightReading v = some a → (s.corner side).height.valid = false →
      (s.corner side).height.recovery = 9 →
      exec (.heightSensorRecovery side v) s = .next { s with
        levelling := { s.levelling with corners := putSide s.levelling.corners ((s.corner side).recoveredAt a) side }
        faults := s.faults.finish .heightSensor (sideNumber side) }) ∧
    (∀ side v a, s.loaded = true → bellowsReading v = some a → (s.corner side).bellows.valid = false →
      (s.corner side).bellows.recovery = 9 →
      exec (.bellowsSensorRecovery side v) s = .next { s with
        levelling := { s.levelling with corners := putSide s.levelling.corners ((s.corner side).bellowsAt a) side }
        faults := s.faults.finish .pressureSensor (2 + sideNumber side) }) ∧
    (∀ v a, s.loaded = true → s.cfg.supplyFitted = true → supplyReading v = some a → s.levelling.supply.valid = false →
      s.levelling.supply.recovery = 9 →
      exec (.supplySensorRecovery v) s = .next { s with
        levelling := { s.levelling with supply := { valid := true, recovery := 10, value := some a } }
        faults := s.faults.finish .supplySensor 0 })

/-! ## Brakes and slip -/

/-- BRAKE_PERIOD (R71, R76, R77, R79 to R91, R93): what a level on PED and PCH reads as; on the CAB station the two
pedal channels, D, D_valid and the PEDAL_MISMATCH faults; the chamber sensors; each wheel's cause and the brake state; in
PASSTHROUGH every share 0; in ELECTRIC the shares, the takeover within its cap, the pressures and the deficit, computed
from the record, the own load, the wheel targets and what the peer view hands out of each entry; each wheel's position;
the modulators undriven during a sweep; out of one, coils 0 to 3 from the positions; the confirmation. That the cap stands
in every ELECTRIC period is log entry 30, the order of the faults log entry 34, the count of a recovered sensor log entry
13. -/
def Obligations.BrakePeriodSharesTheDemand : Prop :=
  (∀ v : Microvolt,
    (v < 500000 ∨ 4500000 < v → pedalReading v = none ∧ chamberReading v = none) ∧
    (500000 ≤ v → v ≤ 4500000 → ∃ a p, pedalReading v = some a ∧ chamberReading v = some p ∧
      8000 * a ≤ 2 * (v - 500000) + 4000 ∧ 2 * (v - 500000) + 4000 < 8000 * (a + 1) ∧
      20000 * p ≤ 6 * (v - 500000) + 10000 ∧ 6 * (v - 500000) + 10000 < 20000 * (p + 1))) ∧
  ∀ (ch : Sides Microvolt) (ped : Pedals) (s : State), s.loaded = true →
    ∃ t, exec (.brakePeriod ch ped) s = .next t ∧
      t = { s with
        brake := t.brake
        faults := t.faults } ∧
      (∀ n, s.isPeer n = true → s.PeerReads n) ∧
      (∀ k, s.bias k = 1000 + s.cfg.stretch * k + s.cfg.boost * ((if 0 < k ∧ s.jackknifed 0 = true then 1 else 0) +
        (if 1 < k ∧ s.jackknifed 1 = true then 1 else 0) + (if 2 < k ∧ s.jackknifed 2 = true then 1 else 0))) ∧
      (∀ side, (atSide s.brake.chamber side).ReadAs (atSide t.brake.chamber side) (chamberReading (atSide ch side))) ∧
      (s.isCab = false → t.brake.ped1 = s.brake.ped1 ∧ t.brake.ped2 = s.brake.ped2 ∧ t.brake.d = s.brake.d ∧
        t.brake.dValid = s.brake.dValid ∧ t.brake.mismatch0 = s.brake.mismatch0 ∧
        t.brake.mismatch1 = s.brake.mismatch1 ∧ t.brake.mismatch2 = s.brake.mismatch2 ∧
        t.faults = (s.faults.afterReading s.brake.chamber.left (chamberReading ch.left) .pressureSensor 0).afterReading
          s.brake.chamber.right (chamberReading ch.right) .pressureSensor 1) ∧
      (s.isCab = true → t.brake.ped1 = pedalReading ped.ped1 ∧ t.brake.ped2 = pedalReading ped.ped2 ∧
        (∀ a b, t.brake.ped1 = some a → t.brake.ped2 = some b → t.brake.d = max a b * s.cfg.dmax / 1000) ∧
        (∀ a, t.brake.ped1 = some a → t.brake.ped2 = none → t.brake.d = a * s.cfg.dmax / 1000) ∧
        (∀ b, t.brake.ped1 = none → t.brake.ped2 = some b → t.brake.d = b * s.cfg.dmax / 1000) ∧
        (t.brake.ped1 = none → t.brake.ped2 = none → t.brake.d = 0) ∧
        (t.brake.dValid = false ↔ t.brake.ped1 = none ∧ t.brake.ped2 = none) ∧
        (t.brake.mismatch0 = true ↔ ∃ a b, t.brake.ped1 = some a ∧ t.brake.ped2 = some b ∧ (a + 50 < b ∨ b + 50 < a)) ∧
        (t.brake.mismatch1 = true ↔ t.brake.ped1 = none) ∧ (t.brake.mismatch2 = true ↔ t.brake.ped2 = none) ∧
        t.faults = ((((s.faults.afterReading s.brake.chamber.left (chamberReading ch.left) .pressureSensor 0).afterReading
          s.brake.chamber.right (chamberReading ch.right) .pressureSensor 1).afterChange
          s.brake.mismatch0 t.brake.mismatch0 .pedalMismatch 0).afterChange
          s.brake.mismatch1 t.brake.mismatch1 .pedalMismatch 1).afterChange
          s.brake.mismatch2 t.brake.mismatch2 .pedalMismatch 2) ∧
      (s.sweeping = false → ∀ side,
        (t.coilOn (2 * sideNumber side) = true ↔
          atSide t.brake.position side = .admitAir ∨ atSide t.brake.position side = .vent) ∧
        (t.coilOn (2 * sideNumber side + 1) = true ↔
          atSide t.brake.position side = .admitAir ∨ atSide t.brake.position side = .hold)) ∧
      t.brake.targets = ⟨s.slip.wheels.left.target, s.slip.wheels.right.target⟩ ∧
      (t.brake.driving = true ↔ s.sweeping = false) ∧
      (s.ladder.mode = .backup ∨ s.demandFreshness = .lost ∨ s.demand.dValid = false →
        t.brake.state = .passthrough ∧ t.brake.dUsed = 0 ∧ t.brake.mOwn = 0 ∧ t.brake.wOwn = 0 ∧ t.brake.mTot = 0 ∧
        t.brake.wSum = 0 ∧ t.brake.fBase = 0 ∧ t.brake.defSum = 0 ∧ t.brake.wNoDef = 0 ∧ t.brake.cap = 0 ∧
        t.brake.takeover = 0 ∧ t.brake.pBase = 0 ∧ t.brake.pReq = 0 ∧ t.brake.deficit = 0 ∧
        t.brake.position = ⟨.openToDriver, .openToDriver⟩) ∧
      (s.ladder.mode ≠ .backup → s.demandFreshness ≠ .lost → s.demand.dValid = true →
        t.brake.state = .electric ∧ t.brake.dUsed = s.demand.d ∧ t.brake.mOwn = max s.cfg.unsprung s.levelling.load ∧
        t.brake.mTot = t.brake.mOwn + (s.peerNumbers.map s.peerLoad).sum ∧
        t.brake.wOwn = t.brake.mOwn * s.bias s.cfg.sections[s.own] ∧
        t.brake.wSum = t.brake.wOwn + (s.peerNumbers.map fun n => s.peerLoad n * s.bias (s.peerSection n)).sum ∧
        (0 < t.brake.wSum →
          2 * (10 * t.brake.wSum) * t.brake.fBase ≤ 2 * (s.demand.d * t.brake.mTot * t.brake.wOwn) + 10 * t.brake.wSum ∧
          2 * (s.demand.d * t.brake.mTot * t.brake.wOwn) + 10 * t.brake.wSum <
            2 * (10 * t.brake.wSum) * (t.brake.fBase + 1)) ∧
        t.brake.defSum = (s.peerNumbers.map fun n => 10 * s.peerDeficit n).sum ∧
        t.brake.wNoDef = (if s.brake.deficit = 0 then t.brake.wOwn else 0) + (s.peerNumbers.map fun n =>
          if (s.peer n).heard.isSome = true ∧ s.peerDeficit n = 0 then s.peerLoad n * s.bias (s.peerSection n) else 0).sum ∧
        t.brake.cap = t.brake.fBase * s.cfg.takeoverCap / 1000 ∧
        t.brake.takeover = (if 0 < s.brake.deficit ∨ t.brake.defSum = 0 then 0
          else min (t.brake.defSum * t.brake.wOwn / t.brake.wNoDef) t.brake.cap) ∧
        t.brake.takeover ≤ t.brake.cap ∧
        (0 < s.cfg.forcePerKpa →
          2 * s.cfg.forcePerKpa * t.brake.pBase ≤ 2 * t.brake.fBase + s.cfg.forcePerKpa ∧
          2 * t.brake.fBase + s.cfg.forcePerKpa < 2 * s.cfg.forcePerKpa * (t.brake.pBase + 1) ∧
          ∃ p, 2 * s.cfg.forcePerKpa * p ≤ 2 * (t.brake.fBase + t.brake.takeover) + s.cfg.forcePerKpa ∧
            2 * (t.brake.fBase + t.brake.takeover) + s.cfg.forcePerKpa < 2 * s.cfg.forcePerKpa * (p + 1) ∧
            t.brake.pReq = min p s.cfg.pMax) ∧
        (∃ eL eR, t.brake.deficit = t.brake.fBase - s.cfg.forcePerKpa * (eL + eR) / 2 ∧
          eL = (if t.brake.cause.left = .none then min s.slip.wheels.left.target t.brake.pBase else t.brake.pBase) ∧
          eR = (if t.brake.cause.right = .none then min s.slip.wheels.right.target t.brake.pBase else t.brake.pBase))) ∧
      (∀ side, atSide t.brake.cause side =
        if s.coilFailed (wheelCoils side).1 = true ∨ s.coilFailed (wheelCoils side).2 = true then .coil
        else if (atSide t.brake.chamber side).valid = false then .sensor
        else .none) ∧
      (∀ side, atSide t.brake.cause side ≠ .none ∨ s.sweeping = true → atSide t.brake.position side = .openToDriver) ∧
      (∀ side p, t.brake.state = .electric → s.sweeping = false → atSide t.brake.cause side = .none →
        (atSide t.brake.chamber side).value = some p →
        atSide t.brake.position side =
          if p + 10 < min (atSide s.slip.wheels side).target s.cfg.pMax then .admitAir
          else if min (atSide s.slip.wheels side).target s.cfg.pMax + 10 < p then .vent
          else .hold) ∧
      t.brake.deficit ≤ t.brake.fBase ∧
      (t.brake.confirmed = true ↔ t.brake.chamber.left.valid = true ∧ t.brake.chamber.right.valid = true ∧
        ∃ l r, t.brake.chamber.left.value = some l ∧ t.brake.chamber.right.value = some r ∧
          s.cfg.confirmThreshold ≤ l ∧ s.cfg.confirmThreshold ≤ r)

/-- SLIP_PERIOD (R95, R97, R99 to R106, R108): each wheel's window and speed; the reference is the greatest of the own
speeds, the FRESH peers' speeds and the previous reference less 5; each wheel's slip; OFF under R101; else the edge
and target of its state and slip; its lock count, which at 100 sets the degraded flag with its first alert. Before the
configuration is held the windows and speeds alone are measured, with 1 pulse per step. That the left wheel's alert is
queued first is log entry 34 (DESIGN CHOICE). -/
def Obligations.SlipPeriodActsOnEachWheel : Prop :=
  (∀ s : State, s.loaded = false → s.startUp.config = none → exec .slipPeriod s = .next { s with slip := { s.slip with
    wheels :=
      ⟨{ s.slip.wheels.left with
          window := (s.slip.wheels.left.count :: s.slip.wheels.left.window).take 10
          count := 0
          speed := min 1500 (((s.slip.wheels.left.count :: s.slip.wheels.left.window).take 10).sum * 36) },
        { s.slip.wheels.right with
          window := (s.slip.wheels.right.count :: s.slip.wheels.right.window).take 10
          count := 0
          speed := min 1500 (((s.slip.wheels.right.count :: s.slip.wheels.right.window).take 10).sum * 36) }⟩ } }) ∧
  ∀ s : State, s.loaded = true → ∃ t, exec .slipPeriod s = .next t ∧
    (∀ a b : State,
      a = (if s.slip.wheels.left.degraded = false ∧ t.slip.wheels.left.degraded = true then s.offerAlert .brakeDegraded 0
        else s) →
      b = (if s.slip.wheels.right.degraded = false ∧ t.slip.wheels.right.degraded = true then
          a.offerAlert .brakeDegraded 1 else a) →
      t = { s with
        slip := t.slip
        link := b.link
        service := b.service }) ∧
    s.slip.vref - 5 ≤ t.slip.vref ∧
    (∀ n r, s.isPeer n = true → (s.peer n).freshness = .fresh → (s.peer n).record = some r → r.speed ≤ t.slip.vref) ∧
    (t.slip.vref = s.slip.vref - 5 ∨ (∃ side, t.slip.vref = (atSide t.slip.wheels side).speed) ∨
      ∃ n r, s.isPeer n = true ∧ (s.peer n).freshness = .fresh ∧ (s.peer n).record = some r ∧ r.speed = t.slip.vref) ∧
    ∀ (side : Side) (w w' : Wheel) (p : Nat), w = atSide s.slip.wheels side → w' = atSide t.slip.wheels side →
      p = s.brake.pReq →
      w'.window = (w.count :: w.window).take 10 ∧ w'.count = 0 ∧
      w'.speed = min 1500 (w'.window.sum * 36 / s.cfg.pulsesPerStep) ∧ w'.speed ≤ t.slip.vref ∧ w'.target ≤ p ∧
      (t.slip.vref = 0 → w'.slip = none) ∧
      (t.slip.vref ≠ 0 → w'.slip = some ((t.slip.vref - w'.speed) * 1000 / t.slip.vref)) ∧
      (t.slip.vref < 30 ∨ atSide s.brake.cause side ≠ .none ∨ s.brake.state = .passthrough ∨ s.ladder.mode = .backup →
        w'.state = .off ∧ w'.reapply = false ∧ w'.grip = 0 ∧ w'.lock = 0 ∧ w'.degraded = false ∧ w'.alertTimer = 0 ∧
          w'.target = p) ∧
      (30 ≤ t.slip.vref → atSide s.brake.cause side = .none → s.brake.state = .electric → s.ladder.mode ≠ .backup →
        ∀ x, w'.slip = some x →
        (w.state = .off → w'.state = .apply ∧ w'.reapply = false ∧ w'.target = p) ∧
        (w.state ≠ .off → w.state ≠ .dump → 150 ≤ x →
          w'.state = .dump ∧ w'.reapply = false ∧ w'.grip = 0 ∧ w'.target = min (w.target - 40) p) ∧
        (w.state = .apply → 80 ≤ x → x < 150 →
          w'.state = .hold ∧ w'.reapply = false ∧ w'.grip = 0 ∧ w'.target = min w.target p ∧ w'.held = w'.target) ∧
        (w.state = .apply → x < 80 → w.reapply = false → w'.state = .apply ∧ w'.reapply = false ∧ w'.target = p) ∧
        (w.state = .apply → x < 80 → w.reapply = true →
          w'.state = .apply ∧ w'.target = min (w.target + 20) p ∧ (w'.reapply = true ↔ w'.target ≠ p)) ∧
        (w.state = .hold → 40 ≤ x → x < 150 →
          w'.state = .hold ∧ w'.grip = 0 ∧ w'.target = min w.held p ∧ w'.held = w'.target) ∧
        (w.state = .hold → x < 40 → w.grip < 2 →
          w'.state = .hold ∧ w'.grip = w.grip + 1 ∧ w'.target = min w.held p ∧ w'.held = w'.target) ∧
        (w.state = .hold → x < 40 → 2 ≤ w.grip →
          w'.state = .apply ∧ w'.grip = 0 ∧ w'.target = min (w.target + 20) p ∧ (w'.reapply = true ↔ w'.target ≠ p)) ∧
        (w.state = .dump → x < 80 →
          w'.state = .hold ∧ w'.grip = 0 ∧ w'.target = min w.target p ∧ w'.held = w'.target) ∧
        (w.state = .dump → 80 ≤ x → w'.state = .dump ∧ w'.target = min (w.target - 40) p) ∧
        (w'.state = .dump → 150 ≤ x → w'.lock = min 100 (w.lock + 1)) ∧
        (w'.state = .dump → 150 ≤ x → w'.lock < 100 ∨ w.degraded = true →
          w'.degraded = w.degraded ∧ w'.alertTimer = w.alertTimer) ∧
        (w'.state = .dump → 150 ≤ x → w'.lock = 100 → w.degraded = false → w'.degraded = true ∧ w'.alertTimer = 20) ∧
        (w'.state ≠ .dump ∨ x < 150 → w'.lock = 0 ∧ w'.degraded = false ∧ w'.alertTimer = 0))

/-- GRIP_REAPPLY (R104, R106): the third period of grip in HOLD gives APPLY with the target 20 above, up to p_req.
BRAKE_DEGRADED (R108): the hundredth period of DUMP with slip at 150 or more sets the flag and offers the alert. As
commands of their own these are the model's reading (log entry 1). -/
def Obligations.SlipCountsReachTheirLimits : Prop :=
  (∀ (side : Side) (s : State) (x : Nat), s.loaded = true → s.forcedOff side = false →
    (atSide s.slip.wheels side).state = .hold → (atSide s.slip.wheels side).slip = some x → x < 40 →
    (atSide s.slip.wheels side).grip = 2 →
    ∃ w, exec (.gripReapply side) s = .next (s.putWheel side w) ∧
      w.state = .apply ∧ w.grip = 0 ∧ w.target = min ((atSide s.slip.wheels side).target + 20) s.brake.pReq ∧
      (w.reapply = true ↔ w.target ≠ s.brake.pReq) ∧ w.lock = (atSide s.slip.wheels side).lock) ∧
  (∀ (side : Side) (s : State) (x : Nat), s.loaded = true → (atSide s.slip.wheels side).state = .dump →
    (atSide s.slip.wheels side).slip = some x → 150 ≤ x → (atSide s.slip.wheels side).degraded = false →
    (atSide s.slip.wheels side).lock = 99 →
    exec (.brakeDegraded side) s = .next ((s.putWheel side { atSide s.slip.wheels side with
      lock := 100
      degraded := true
      alertTimer := 20 }).offerAlert .brakeDegraded (sideNumber side)))

/-! ## Levelling -/

/-- LEVELLING_PERIOD (R110, R111, R113 to R119, R121 to R129): what a level on each input reads as; the sensors and their
faults; coils 4 to 7 out of a sweep, and the valve states a SNAPSHOT shows, from the valve states; the supply value, the least
of the own and the peers' figures, and the band; a window start, or the SCARCE cut; each corner's target, height, error,
counters and lock; the corner that holds, waits, calls for fill, exhausts or is closed, and who of two that call is
given a slice; the load, measured while both valves were and are CLOSED; the filling flag; the raise timer with
RAISE_SLOW. What the first period counts as the valves before it is log entry 20, the order of the faults log entry
34, an excluded corner's absent error log entry 35, a recovered sensor's count log entry 13. -/
def Obligations.LevellingPeriodServesTheCorners : Prop :=
  ∀ (r : LevelReadings) (s : State), s.loaded = true → ∃ t, exec (.levellingPeriod r) s = .next t ∧
    t = { s with
      levelling := t.levelling
      faults := t.faults } ∧
    (∀ v : Microvolt, HeightReads v ∧ BellowsReads v ∧ SupplyReads v) ∧
    (∀ side, (t.corner side).valveSeen = (t.corner side).valve ∧ (s.sweeping = false →
      (t.coilOn (4 + 2 * sideNumber side) = true ↔ (t.corner side).valve = .fill) ∧
      (t.coilOn (5 + 2 * sideNumber side) = true ↔ (t.corner side).valve = .exhaust))) ∧
    (∀ side, (s.corner side).height.ReadAs (t.corner side).height (heightReading (atSide r.height side)) ∧
      (s.corner side).bellows.ReadAs (t.corner side).bellows (bellowsReading (atSide r.bellows side)) ∧
      (t.corner side).trim = (s.corner side).trim ∧ (t.corner side).trimSeen = (s.corner side).trim) ∧
    (s.cfg.supplyFitted = true → s.levelling.supply.ReadAs t.levelling.supply (supplyReading r.supply)) ∧
    (s.cfg.supplyFitted = false → t.levelling.supply = s.levelling.supply) ∧
    (∀ f, f = (((s.faults.afterReading (s.corner .left).height (heightReading r.height.left) .heightSensor 0).afterReading
          (s.corner .right).height (heightReading r.height.right) .heightSensor 1).afterReading
          (s.corner .left).bellows (bellowsReading r.bellows.left) .pressureSensor 2).afterReading
          (s.corner .right).bellows (bellowsReading r.bellows.right) .pressureSensor 3 →
      ∀ g, g = (if s.cfg.supplyFitted = true then f.afterReading s.levelling.supply (supplyReading r.supply) .supplySensor 0
          else f) →
        t.faults = (if s.ladder.mode ≠ .raise then g.finish .raiseSlow 0
          else if s.levelling.raiseTimer < 20000 ∧ 19990 ≤ s.levelling.raiseTimer then g.raise .raiseSlow 0 else g)) ∧
    t.levelling.raiseTimer = (if s.ladder.mode = .raise then min 20000 (s.levelling.raiseTimer + 10) else 0) ∧
    (∀ p, t.levelling.supplyValue = some p →
      (s.cfg.supplyFitted = true ∧ t.levelling.supply.valid = true ∧ t.levelling.supply.value = some p) ∨
        ∃ n q, s.isPeer n = true ∧ (s.peer n).heard = some q ∧ q.supply = some p) ∧
    (s.cfg.supplyFitted = true → t.levelling.supply.valid = true → ∀ q, t.levelling.supply.value = some q →
      ∃ p, t.levelling.supplyValue = some p ∧ p ≤ q) ∧
    (∀ n q x, s.isPeer n = true → (s.peer n).heard = some q → q.supply = some x →
      ∃ p, t.levelling.supplyValue = some p ∧ p ≤ x) ∧
    (∀ n, s.isPeer n = true → s.PeerReads n) ∧
    (∃ b, t.levelling.band = some b ∧ BandMoves s.levelling.band t.levelling.supplyValue b) ∧
    t.levelling.limitedFrom = (if t.levelling.band ≠ some .limited then none
      else if s.levelling.band = some .limited then s.levelling.limitedFrom
      else if s.levelling.band = some .abundant then some .abundant
      else if s.levelling.band = some .scarce then some .scarce else some .startUp) ∧
    (s.windowFalls = true → s.WindowStarts { s.levelling with
        band := t.levelling.band
        supplyValue := t.levelling.supplyValue
        limitedFrom := t.levelling.limitedFrom
        limitedNew := s.levelling.limitedNew ||
          (t.levelling.band == some .limited && s.levelling.band != some .limited) } t.levelling) ∧
    (s.windowFalls = false → t.levelling.allowance = s.levelling.allowance ∧ t.levelling.n = s.levelling.n ∧
      t.levelling.share = s.levelling.share ∧ t.levelling.windowSupply = s.levelling.windowSupply ∧
      t.levelling.started = s.levelling.started ∧
      t.levelling.elapsed = (if s.levelling.started = true then s.levelling.elapsed + 1 else s.levelling.elapsed) ∧
      t.levelling.limitedNew = (s.levelling.limitedNew ||
        (t.levelling.band == some .limited && s.levelling.band != some .limited)) ∧
      t.levelling.limit = (if t.levelling.band ≠ some .scarce ∨ s.levelling.band = some .scarce then s.levelling.limit
        else if s.ladder.mode = .raise ∨ s.ladder.mode = .backup then
          s.levelling.used + min (s.levelling.limit - s.levelling.used) (16 / s.levelling.n)
        else s.levelling.used)) ∧
    (∀ side, (t.corner side).target =
      (if s.cfg.kerb = side ∧ (s.ladder.mode = .kneel ∨ s.ladder.mode = .knelt) then -(s.cfg.kneelDepth : Int) else 0)) ∧
    (∀ side, (t.corner side).height.valid = false → (t.corner side).h = none ∧ (t.corner side).err = none ∧
      (t.corner side).inBand = 0 ∧ (t.corner side).outBand = 0 ∧ (t.corner side).locked = false) ∧
    (∀ side raw e, (t.corner side).height.valid = true → (t.corner side).height.value = some raw →
      e = (t.corner side).target - clampInt (-150) 150 (raw - (s.corner side).trim) →
      (t.corner side).h = some (clampInt (-150) 150 (raw - (s.corner side).trim)) ∧ (t.corner side).err = some e ∧
      (e.natAbs ≤ s.cfg.deadband → (t.corner side).outBand = 0 ∧ (t.corner side).inBand =
        min 20 ((if (t.corner side).target = (s.corner side).target then (s.corner side).inBand else 0) + 1) ∧
        ((t.corner side).locked = true ↔ (t.corner side).inBand = 20)) ∧
      (s.cfg.deadband < e.natAbs → (t.corner side).inBand = 0 ∧ (t.corner side).outBand =
        min 200 ((if (t.corner side).target = (s.corner side).target then (s.corner side).outBand else 0) + 1) ∧
        (t.corner side).locked = false)) ∧
    (∀ side, s.cornerHolds side (t.corner side).height.valid ∨ (s.ladder.mode = .drive ∧ (t.corner side).outBand < 200) →
      (t.corner side).valve = .closed ∧ (t.corner side).calls = false ∧ (t.corner side).starved = false) ∧
    (∀ side e, ¬s.cornerHolds side (t.corner side).height.valid → s.ladder.mode ≠ .drive ∨ 200 ≤ (t.corner side).outBand →
      (t.corner side).err = some e →
      ((t.corner side).calls = true ↔ (s.cfg.deadband : Int) < e) ∧
      (e < -(s.cfg.deadband : Int) → (t.corner side).valve = .exhaust ∧ (t.corner side).starved = false) ∧
      (e.natAbs ≤ s.cfg.deadband → (t.corner side).valve = .closed ∧ (t.corner side).starved = false)) ∧
    (∀ side used, (t.corner side).calls = true → used = (if s.windowFalls then 0 else s.levelling.used) →
      (s.airFlows t.levelling.band → used + (if t.servedAfter side then 1 else 0) < t.levelling.limit →
        (t.corner side).valve = .fill ∧ (t.corner side).starved = false) ∧
      (¬s.airFlows t.levelling.band ∨ t.levelling.limit ≤ used + (if t.servedAfter side then 1 else 0) →
        (t.corner side).valve = .closed ∧ (t.corner side).starved = true)) ∧
    t.levelling.used = (if s.windowFalls then 0 else s.levelling.used) +
      (if (t.corner .left).valve = .fill then 1 else 0) + (if (t.corner .right).valve = .fill then 1 else 0) ∧
    (t.levelling.closedLast = true ↔ (t.corner .left).valve = .closed ∧ (t.corner .right).valve = .closed) ∧
    (∀ pL pR, s.levelling.closedLast = true → t.levelling.closedLast = true → s.sweeping = false →
      (t.corner .left).bellows.valid = true → (t.corner .right).bellows.valid = true →
      (t.corner .left).bellows.value = some pL → (t.corner .right).bellows.value = some pR →
      t.levelling.load = min 2000 (s.cfg.unsprung + (pL + pR) * s.cfg.kload / 256)) ∧
    (s.levelling.closedLast = false ∨ t.levelling.closedLast = false ∨ s.sweeping = true ∨
      (t.corner .left).bellows.valid = false ∨ (t.corner .right).bellows.valid = false →
      t.levelling.load = s.levelling.load) ∧
    (t.levelling.filling = true ↔ ((t.corner .left).calls = true ∨ (t.corner .right).calls = true) ∧
      s.airFlows t.levelling.band)

/-- AIR_WINDOW_START (R124, R125): when a window start is due, the allowance by the band, the LIMITED ones (120, 24 or 60
at an entry, then hunting by 12 on a change of more than 10 kPa, within 24 to 120) included, n, the share, the window
limit at the share and no slice used; when none is due nothing changes. As a command of its own this is the model's
reading (log entry 1), and so are the count of the periods elapsed (log entry 20) and a window with no band yet (log
entry 36). -/
def Obligations.AirWindowSharesTheAllowance : Prop :=
  ∀ s : State, s.loaded = true →
    (s.windowFalls = true → ∃ t, exec .airWindowStart s = .next t ∧
      t = { s with levelling := { s.levelling with
        allowance := t.levelling.allowance
        n := t.levelling.n
        share := t.levelling.share
        limit := t.levelling.share
        used := 0
        started := true
        elapsed := 0
        limitedNew := false
        windowSupply := s.levelling.supplyValue } } ∧
      s.WindowStarts s.levelling t.levelling) ∧
    (s.windowFalls = false → exec .airWindowStart s = .next s) ∧
    (∀ n, s.isPeer n = true → s.PeerReads n)

/-- CORNER_LOCKED, OUT_OF_BAND_LIMIT and RAISE_SLOW (R114, R115, R121), at the count that reaches the limit. As
commands of their own these are the model's reading (log entry 1). -/
def Obligations.LevellingCountsReachTheirLimits : Prop :=
  ∀ s : State, s.loaded = true →
    (∀ side e, (s.corner side).height.valid = true → (s.corner side).err = some e → e.natAbs ≤ s.cfg.deadband →
      (s.corner side).inBand = 19 →
      exec (.cornerLocked side) s = .next (s.putCorner side { s.corner side with
        inBand := 20
        outBand := 0
        locked := true })) ∧
    (∀ side e, (s.corner side).height.valid = true → (s.corner side).err = some e → s.cfg.deadband < e.natAbs →
      (s.corner side).outBand = 199 → s.ladder.mode = .drive → s.sweeping = false →
      s.coilFailed (cornerCoils side).1 = false → s.coilFailed (cornerCoils side).2 = false →
      ∃ t, exec (.outOfBandLimit side) s = .next t ∧
        t = { s with levelling := t.levelling } ∧ t.corner (otherSide side) = s.corner (otherSide side) ∧
        (t.corner side).valveSeen = (t.corner side).valve ∧
        (t.corner side).outBand = 200 ∧ (t.corner side).locked = false ∧
        (e < 0 → (t.corner side).valve = .exhaust) ∧
        (0 < e → (t.corner side).calls = true ∧
          (s.levelling.band ≠ some .scarce → s.levelling.used < s.levelling.limit → (t.corner side).valve = .fill))) ∧
    (s.ladder.mode = .raise → s.levelling.raiseTimer < 20000 → 19990 ≤ s.levelling.raiseTimer →
      exec .raiseSlow s = .next { s with
        levelling := { s.levelling with raiseTimer := 20000 }
        faults := s.faults.raise .raiseSlow 0 })

/-! ## Entrances and the stop brake -/

/-- ENTRANCE_PERIOD (R130 to R143): each fitted entrance's record is made or read and moves by the rule of its state, a
release barred unless the mode, the confirmed stop brake, a sound valve coil and no RUNNING sweep allow it, with its
fault raised or ended; the outputs follow the state and phase, the stop-brake valve its four terms; an entrance in
BREACH above speed 50 is alerting and queues its alert at once and every 20 ms; ENT_LOCKED, any breach and READY
follow the records, the mode and the corners; a sweep whose conditions are broken is aborted, after both slots (log entry
39); coil 8 follows the valve's command unless it is in test. The model's choices besides: a record not yet made (log entry
11), the 10 ms that reach a limit and what an edge leaves (log entry 14), a VALID corner without a height (log entry 20), slot
0 before slot 1 (log entry 34). -/
def Obligations.EntrancePeriodRunsTheMachines : Prop :=
  ∀ (i : Slots SlotInputs) (s : State), s.loaded = true → ∃ t, exec (.entrancePeriod i) s = .next t ∧
    t = { s with
      interlock := { s.interlock with
        records := t.interlock.records
        valve := t.interlock.valve
        terms := t.interlock.terms
        ready := t.interlock.ready
        entLocked := t.interlock.entLocked
        anyBreach := t.interlock.anyBreach }
      startUp := t.startUp
      link := t.link
      faults := t.faults
      service := t.service } ∧
    (∀ slot, s.slotFitted slot = false → s.entrance slot = none → t.entrance slot = none) ∧
    (∀ slot e, s.slotFitted slot = true →
      e = Entrance.readFrom (s.entrance slot) (atSlot i slot) (s.demand.release.getLsbD (2 * s.own.val + slotNumber slot)) →
      ∃ e', t.entrance slot = some e' ∧
        e.MovesTo { e' with
            outputs := e.outputs
            alerting := e.alerting
            alertTimer := e.alertTimer }
          (s.brake.confirmed = true ∧ s.coilFailed 8 = false ∧ s.sweeping = false ∧
            (s.ladder.mode = .stop ∨ s.ladder.mode = .kneel ∨ s.ladder.mode = .knelt ∨ s.ladder.mode = .park)) ∧
        entranceEdge e.state e'.state = true ∧
        (e'.outputs.unlock = true ↔ (e'.state = .released ∧ e'.phase ≠ .relocking) ∨ e'.state = .opened ∨
          (e'.state = .closing ∧ e'.phase ≠ .latching) ∨ e'.state = .obstructed) ∧
        (e'.outputs.openDrive = true ↔ e'.state = .opened ∨ e'.state = .obstructed) ∧
        (e'.outputs.closeDrive = true ↔ e'.state = .closing) ∧
        (e'.alerting = true ↔ e'.state = .breach ∧ 50 < s.ownSpeed) ∧
        e'.alertTimer = (if e'.alerting = false then 0 else if t.breachFrameDue slot (s.entrance slot) = true then 20
          else e.alertTimer)) ∧
    t.faults = (s.faults.afterChange ((s.entrance .zero).any (fun e => e.state == .fault))
        ((t.entrance .zero).any (fun e => e.state == .fault)) .entranceFault (2 * s.own.val)).afterChange
      ((s.entrance .one).any (fun e => e.state == .fault)) ((t.entrance .one).any (fun e => e.state == .fault))
        .entranceFault (2 * s.own.val + 1) ∧
    (∀ a b v : State,
      a = (if t.breachFrameDue .zero (s.entrance .zero) = true then s.offerAlert .entranceBreach (2 * s.own.val) else s) →
      b = (if t.breachFrameDue .one (s.entrance .one) = true then a.offerAlert .entranceBreach (2 * s.own.val + 1) else a) →
      v = { s with
        interlock := t.interlock
        faults := t.faults
        link := b.link
        service := b.service } →
      v.SweepWatches t) ∧
    (t.sweeping = false ∨ t.startUp.sweep.coil ≠ 8 → (t.coilOn 8 = true ↔ t.interlock.valve = true)) ∧
    (t.interlock.terms.byMode = true ↔ s.ladder.mode = .park ∨ s.ladder.mode = .stop ∨ s.ladder.mode = .kneel ∨
      s.ladder.mode = .knelt ∨ s.ladder.mode = .raise) ∧
    (t.interlock.terms.byStart = true ↔ s.ladder.mode = .start ∧ s.ladder.qualifier = .standstill) ∧
    (t.interlock.terms.byOpen = true ↔ ∃ slot e, t.entrance slot = some e ∧
      (e.state = .released ∨ e.state = .opened ∨ e.state = .closing ∨ e.state = .obstructed)) ∧
    (t.interlock.terms.byFault = true ↔ (∃ slot e, t.entrance slot = some e ∧ (e.state = .fault ∨ e.state = .breach)) ∧
      s.ownSpeed ≤ 50 ∧ s.demand.ovr = false) ∧
    (t.interlock.valve = true ↔ t.interlock.terms.byMode = true ∨ t.interlock.terms.byStart = true ∨
      t.interlock.terms.byOpen = true ∨ t.interlock.terms.byFault = true) ∧
    (t.interlock.entLocked = true ↔ ∀ slot, s.slotFitted slot = true → ∃ e, t.entrance slot = some e ∧ e.state = .locked) ∧
    (t.interlock.anyBreach = true ↔ ∃ slot e, t.entrance slot = some e ∧ e.state = .breach) ∧
    (t.interlock.ready = true ↔
      (s.ladder.mode = .start ∨ s.ladder.mode = .stop ∨ s.ladder.mode = .drive ∨ s.ladder.mode = .backup) ∧
      (s.ladder.qualifier = .standstill →
        ∀ side h, (s.corner side).height.valid = true → (s.corner side).h = some h → -30 ≤ h))

/-- LOCK_TIMEOUT, CLOSE_TIMEOUT and REOPENING_DONE (R135, R137, R138), at the 10 ms that reach the limit. As commands
of their own, and at the growth that reaches the limit, these are the model's reading (log entries 1 and 14). -/
def Obligations.EntranceTimersExpire : Prop :=
  ∀ (slot : Slot) (e : Entrance) (s : State), s.entrance slot = some e →
    ((e.state = .released ∧ e.phase = .relocking) ∨ (e.state = .closing ∧ e.phase = .latching) → 990 ≤ e.timer →
      ∃ t e', exec (.lockTimeout slot) s = .next t ∧ t.entrance slot = some e' ∧ e'.state = .fault ∧
        e'.phase = .none ∧ e'.timer = 0 ∧ e'.cause = .lockTimeout ∧
        t.faults = s.faults.raise .entranceFault (s.globalNumber slot) ∧
        t = { s with
          interlock := t.interlock
          startUp := t.startUp
          link := t.link
          faults := t.faults
          service := t.service }) ∧
    (e.state = .closing → e.phase = .driving → 7990 ≤ e.timer →
      ∃ t e', exec (.closeTimeout slot) s = .next t ∧ t.entrance slot = some e' ∧ e'.state = .fault ∧
        e'.phase = .none ∧ e'.timer = 0 ∧ e'.cause = .closeTimeout ∧
        t.faults = s.faults.raise .entranceFault (s.globalNumber slot) ∧
        t = { s with
          interlock := t.interlock
          startUp := t.startUp
          link := t.link
          faults := t.faults
          service := t.service }) ∧
    (e.state = .obstructed → e.bit = false → 990 ≤ e.timer →
      ∃ t e', exec (.reopeningDone slot) s = .next t ∧ t.entrance slot = some e' ∧ t.faults = s.faults ∧
        (e.reversals < 3 → e'.state = .closing ∧ e'.phase = .driving ∧ e'.timer = 0) ∧
        (3 ≤ e.reversals → e'.state = .opened ∧ e'.phase = .none) ∧
        t = { s with
          interlock := t.interlock
          startUp := t.startUp
          link := t.link
          service := t.service })

/-- DEMAND_COMPUTATION on the CAB station (R30, R33, R38, R48, R144 to R146): the frame's flags are the switches, D and
D_valid the brake block's, the release mask the configured one under the release switch; the drive flag is set exactly under
its four conditions, and the traction-enable line with it; the warning line and the entrance line; the frame is offered to
the queue (R156; StateIsQueuedAndPromoted says what becomes of it) and its values fed to the own record, FRESH; a set
reverse flag empties the path queue and holds the pulse accumulator at 0; a RUNNING sweep watches D (R169). That a run waits
for its timer is log entry 9, what the clearing leaves of the last mismatch log entry 33. -/
def Obligations.DemandComputationFeedsTheRecord : Prop :=
  ∀ (w : Switches) (s : State), s.isCab = true →
    (s.interlock.demandTimer ≠ 0 → exec (.demandComputation w) s = .next s) ∧
    (s.interlock.demandTimer = 0 → ∃ t v o, exec (.demandComputation w) s = .next t ∧
      o = s.offer { kind := .demand, cls := 1, dest := 8, payload := bytesOf 2 v.d ++
        [BitVec.ofNat 8 ((if v.dValid then 1 else 0) + (if v.stop then 2 else 0) + (if v.kneel then 4 else 0) +
          (if v.park then 8 else 0) + (if v.rev then 16 else 0) + (if v.drive then 32 else 0) +
          (if v.ovr then 64 else 0))] ++ bytesOf 2 v.release.toNat } ∧
      State.SweepWatches { s with
        interlock := { s.interlock with
          demandTimer := 10
          switches := w
          driveTerms := t.interlock.driveTerms
          driveFlag := v.drive
          traction := v.drive
          warning := t.interlock.warning
          entranceLine := t.interlock.entranceLine }
        peerView := { s.peerView with demand := { s.peerView.demand with
          freshness := .fresh
          age := 0
          values := v } }
        ladder := { s.ladder with noDemandCause := false }
        faults := (s.faults.finish .demandLost 0).finish .demandLost 1
        tracker := if w.rev = true then { s.tracker with
            accumulator := 0
            queue := if s.hasPath = true then [] else s.tracker.queue
            rejectionRun := if s.hasPath = true then 0 else s.tracker.rejectionRun }
          else s.tracker
        joint := if w.rev = true ∧ s.hasJoint = true then s.joint.afterClearing else s.joint
        link := o.link
        service := o.service } t ∧
      v = { d := s.brake.d, dValid := s.brake.dValid, stop := w.stop, kneel := w.kneel, park := w.park, rev := w.rev,
            drive := v.drive, ovr := w.ovr, release := if w.rel then s.cfg.busEntrances else 0 } ∧
      (∀ n, s.isPeer n = true → s.PeerReads n) ∧
      (t.interlock.driveTerms.entrances = true ↔ w.ovr = true ∨
        (s.interlock.entLocked = true ∧ ∀ n, s.isPeer n = true → s.peerEntLocked n = true)) ∧
      (t.interlock.driveTerms.readiness = true ↔ s.interlock.ready = true ∧ ∀ n, s.isPeer n = true →
        ((s.peer n).heard = none → w.ovr = true) ∧ (∀ r, (s.peer n).heard = some r → r.ready = true)) ∧
      (t.interlock.driveTerms.articulation = true ↔ (s.joint.jackknife = false ∨ s.cfg.joint = none) ∧
        ∀ a ∈ s.peerView.alerts, ¬(a.code = .jackknife ∧ a.qualifier.toNat ≤ 2)) ∧
      (t.interlock.driveTerms.driver = true ↔ w.park = false ∧ w.stop = false ∧ w.kneel = false) ∧
      (v.drive = true ↔ t.interlock.driveTerms.entrances = true ∧ t.interlock.driveTerms.readiness = true ∧
        t.interlock.driveTerms.articulation = true ∧ t.interlock.driveTerms.driver = true) ∧
      (t.interlock.warning = true ↔ s.peerView.alerts ≠ [] ∨ s.joint.jackknife = true ∨ s.joint.limit = true ∨
        s.steering.state = .pinned ∨ s.slip.wheels.left.degraded = true ∨ s.slip.wheels.right.degraded = true ∨
        (∃ slot e, s.entrance slot = some e ∧ e.alerting = true) ∨ s.ladder.mode = .backup ∨
        ∃ n, s.isPeer n = true ∧ ((s.peer n).heard = none ∨
          ∃ r, (s.peer n).heard = some r ∧ (r.mode = .backup ∨ r.anyBreach = true))) ∧
      (t.interlock.entranceLine = true ↔ s.interlock.entLocked = false ∨
        ∃ n, s.isPeer n = true ∧ s.peerEntLocked n = false))

/-! ## The link controller -/

/-- LINK_IDLE (R149, R151, R155): with entries waiting and none in flight, the entry with the lowest identifier, the longest
queued among equals, goes in flight, and its frame on the wires: the start bit, the identifier of class, kind code, kind
parity and sender, the destination, the length, the payload and the check, most significant bit first, with the inserted
bits, then the recessive ack slot and end field. Kind codes and the parity bit, 1 for a code with an odd number of 1 bits.
The check and the insertion are InsertedBitsAreRemovedAgain's. The bits on the wires and the count of recessive bits are log
entry 22. -/
def Obligations.LinkIdleSendsTheLowestIdentifier : Prop :=
  (Kind.state.code = 1 ∧ Kind.demand.code = 2 ∧ Kind.trace.code = 3 ∧ Kind.alert.code = 5 ∧ Kind.serviceReq.code = 6 ∧
    Kind.serviceReply.code = 7) ∧
  (∀ c, c < 16 → (kindParity c = true ↔ ((List.range 4).filter fun i => c.testBit i).length % 2 = 1)) ∧
  ∀ s : State, s.link.queue ≠ [] → s.link.sending = false → s.link.listenOnly = false →
    ∃ before e after checked, s.link.queue = before ++ e :: after ∧
      (∀ x ∈ before, e.ident s.own < x.ident s.own) ∧ (∀ x ∈ after, e.ident s.own ≤ x.ident s.own) ∧
      (∀ x : Entry, x.ident s.own =
        256 * x.cls + 16 * x.kind.code + (if kindParity x.kind.code then 8 else 0) + s.own.val) ∧
      checked = msbFirst 10 (e.ident s.own) ++ msbFirst 4 e.dest ++ msbFirst 4 e.payload.length ++
        e.payload.flatMap (fun b => msbFirst 8 b.toNat) ∧
      exec .linkIdle s = .next { s with link := { s.link with
        queue := before ++ { e with inFlight := true } :: after
        wire := false :: insertBits false 1 (checked ++ msbFirst 16 (crc16 checked)) ++ List.replicate 9 true
        recessive := 0 } }

/-- The check and the bit insertion of a frame (R149, R151, R164). The check starts at 0xFFFF and takes in each bit by the
polynomial 0x1021, with no final inversion. After six bits in a row of one level the sender inserts one of the other; what
follows goes on from the inserted bit. A receiver that removes the inserted bits reads the sender's bits again, and no seven
equal bits stand in a row from the start bit to the last bit of the check. That nothing is inserted after the last bit is
log entry 23. -/
def Obligations.InsertedBitsAreRemovedAgain : Prop :=
  (crc16 [] = 0xFFFF ∧ ∀ (bits : List Bool) (b : Bool), crc16 (bits ++ [b]) =
    if (crc16 bits).testBit 15 = b then 2 * crc16 bits % 65536 else (2 * crc16 bits % 65536) ^^^ 0x1021) ∧
  (∀ (last : Bool) (run : Nat) (b : Bool) (rest : List Bool), insertBits last run [] = [] ∧
    (run ≠ 6 → insertBits last run (b :: rest) = b :: insertBits b (if b = last then run + 1 else 1) rest) ∧
    insertBits last 6 (b :: rest) = (!last) :: b :: insertBits b (if b = last then 1 else 2) rest) ∧
  ∀ bits : List Bool, removeInserted false 1 (insertBits false 1 bits) = bits ∧
    ∀ (b : Bool) (before after : List Bool),
      false :: insertBits false 1 bits ≠ before ++ List.replicate 7 b ++ after

/-- ARBITRATION_LOST, SEND_BIT_ERROR, FRAME_SENT and LINK_ALONE (R150, R153, R154, R156, R157, R160, R174), with entry
`e` in flight. A lost arbitration leaves the entry in its place with the payload of the frame held aside for it; on a
listen-only station, and at every other end, the entry leaves, a frame held aside joins, and a SERVICE_REPLY frees the
reply slot. The sixteenth frame in a row without acknowledgement raises LINK_ALONE. With nothing in flight nothing
changes. LINK_ALONE as a command of its own is log entry 1, the class of a held frame log entry 18, the slot while a
sweep's reply is pending log entry 17, a held reply offered once as the reply leaves, and lost on a listen-only station, log
entry 27. No run reaches a listen-only station with a frame held aside, which R160 discards; the statement covers it as the
model has it. -/
def Obligations.AttemptsToSendEnd : Prop :=
  (∀ (s : State) (e : Entry), s.link.QueueOk → e ∈ s.link.queue → e.inFlight = true →
    (s.link.listenOnly = false → exec .arbitrationLost s = .next { s with link := { s.link with
      queue := s.link.queue.map fun x => if x.inFlight = true then { x with
        inFlight := false
        payload := (s.link.held.map (fun h => h.payload)).getD x.payload } else x
      held := none
      wire := [] } }) ∧
    (s.link.listenOnly = true → ∃ t, exec .arbitrationLost s = .next t ∧
      t = { s with
        link := { s.link with
          queue := t.link.queue
          held := t.link.held
          wire := t.link.wire
          shed := t.link.shed }
        service := t.service } ∧ s.AttemptDone t e) ∧
    (∃ t, exec .sendBitError s = .next t ∧
      t = { s with
        link := { s.link with
          queue := t.link.queue
          held := t.link.held
          wire := t.link.wire
          shed := t.link.shed
          sendError := bump s.link.sendError }
        service := t.service } ∧ s.AttemptDone t e) ∧
    (∃ t, exec (.frameSent true) s = .next t ∧
      t = { s with
        link := { s.link with
          queue := t.link.queue
          held := t.link.held
          wire := t.link.wire
          shed := t.link.shed
          sent := bump s.link.sent
          ackMiss := 0 }
        faults := s.faults.finish .linkAlone 0
        service := t.service } ∧ s.AttemptDone t e) ∧
    (∃ t, exec (.frameSent false) s = .next t ∧
      t = { s with
        link := { s.link with
          queue := t.link.queue
          held := t.link.held
          wire := t.link.wire
          shed := t.link.shed
          sent := bump s.link.sent
          unacked := bump s.link.unacked
          ackMiss := min 16 (s.link.ackMiss + 1) }
        faults := if s.link.ackMiss = 15 then s.faults.raise .linkAlone 0 else s.faults
        service := t.service } ∧ s.AttemptDone t e ∧
      (s.link.ackMiss = 15 → exec .linkAlone s = .next t)) ∧
    (s.link.ackMiss ≠ 15 → exec .linkAlone s = .next s)) ∧
  (∀ s : State, (∀ e ∈ s.link.queue, e.inFlight = false) → exec .arbitrationLost s = .next s ∧
    exec .sendBitError s = .next s ∧ (∀ acked, exec (.frameSent acked) s = .next s) ∧ exec .linkAlone s = .next s)

/-- A frame offered to the queue (R156, R157, R159, R160): refused by a listen-only station, held aside for its entry in
flight, put in the place of its waiting entry, or joined at the tail; a fifth TRACE drops the oldest not in flight; on a
full queue the youngest entry of the least urgent class makes room for a more urgent frame, which else is dropped; each with
its counter, and the reply slot told of a reply that is displaced (a held one log entry 27, the slot log entry 17).
STATE_TIMER (R161): the timer starts again, and a STATE is so offered. The payload byte by byte (R161, R173): section, role
and mode, the load, the own speed, the deficit, the six flags, the fault summary from the active records and the overflow
flag, and the own supply reading when there is one. STATE_PROMOTION (R158): a STATE whose time in the queue has passed
50 ms goes from class 2 to class 1; nothing else changes. -/
def Obligations.StateIsQueuedAndPromoted : Prop :=
  (∀ (s : State) (e : Entry), s.link.QueueOk → e.cls ≤ 3 → s.Offers e (s.offer e)) ∧
  (∀ s : State, s.loaded = true → s.link.listenOnly = false → s.link.stateTimer = 0 →
    exec .stateTimer s = .next (State.offer { s with link := { s.link with stateTimer := 20 } }
      { kind := .state, cls := 2, dest := 8, payload := s.statePayload })) ∧
  (∀ (s : State) (p : List Byte) (active : List FaultCode → Bool), p = s.statePayload →
    (∀ codes, active codes = true ↔ ∃ r ∈ s.faults.records, r.active = true ∧ r.code ∈ codes) →
    p.length = (if s.ownSupply.isSome then 11 else 9) ∧
    s.ownSupply = (if s.cfg.supplyFitted = true ∧ s.levelling.supply.valid = true then s.levelling.supply.value else none) ∧
    (s.cfg.sections[s.own] ≤ 3 → byteAt p 0 / 64 = s.cfg.sections[s.own]) ∧
    [Role.cab, .plain, .steer][byteAt p 0 / 16 % 4]? = some s.cfg.role ∧
    [Mode.start, .park, .stop, .kneel, .knelt, .raise, .drive, .backup][byteAt p 0 % 16]? = some s.ladder.mode ∧
    (s.levelling.load ≤ 65535 → pairAt p 1 = s.levelling.load) ∧
    (s.ownSpeed ≤ 65535 → pairAt p 3 = s.ownSpeed) ∧
    pairAt p 5 = min 65535 (s.brake.deficit / 10) ∧
    (byteAt p 7).testBit 0 = s.levelling.filling ∧ (byteAt p 7).testBit 1 = s.interlock.ready ∧
    (byteAt p 7).testBit 2 = s.interlock.entLocked ∧ (byteAt p 7).testBit 3 = s.brake.confirmed ∧
    (byteAt p 7).testBit 4 = s.interlock.anyBreach ∧ (byteAt p 7).testBit 5 = s.ownSupply.isSome ∧
    byteAt p 7 < 64 ∧
    (byteAt p 8).testBit 0 = active [.configBad, .duplicateStation] ∧ (byteAt p 8).testBit 1 = active [.coilFail] ∧
    (byteAt p 8).testBit 2 = active [.demandLost, .peerLost, .linkAlone] ∧
    (byteAt p 8).testBit 3 = active [.traceBroken, .steerTrack, .jointSensor] ∧
    (byteAt p 8).testBit 4 = active [.pedalMismatch, .pressureSensor] ∧
    (byteAt p 8).testBit 5 = active [.heightSensor, .supplySensor, .raiseSlow] ∧
    (byteAt p 8).testBit 6 = active [.entranceFault] ∧ (byteAt p 8).testBit 7 = s.faults.overflow ∧
    (∀ x, s.ownSupply = some x → x ≤ 65535 → pairAt p 9 = x)) ∧
  (∀ s : State, exec .statePromotion s = .next { s with link := { s.link with
    queue := s.link.queue.map fun e =>
      { e with cls := if e.kind = .state ∧ e.cls = 2 ∧ 50 < e.time then 1 else e.cls } } })

/-! ## The fault list and the service block -/

/-- SECONDS_TICK (R172): after 1000 ms the seconds counter grows by 1, up to 65535. Both resets set it to 0; a power-on
reset empties the list and clears the overflow flag, a service restart keeps the records but for their active flags, and
the overflow flag. -/
def Obligations.SecondsAreCounted : Prop :=
  (∀ s : State, 1000 ≤ s.faults.millis → s.faults.seconds ≤ 65535 →
    exec .secondsTick s = .next { s with faults := { s.faults with
      seconds := min 65535 (s.faults.seconds + 1)
      millis := s.faults.millis - 1000 } }) ∧
  (∀ s : State, s.faults.millis < 1000 → exec .secondsTick s = .next s) ∧
  ∀ (pins : StrapPins) (s : State),
    (∃ t, exec (.powerOnReset pins) s = .next t ∧ t.faults.seconds = 0 ∧ t.faults.records = [] ∧
      t.faults.overflow = false) ∧
    (s.service.restartArmed = true → s.service.slot = .free → ∃ t, exec (.serviceRestart pins) s = .next t ∧
      t.faults.seconds = 0 ∧ t.faults.overflow = s.faults.overflow ∧
      t.faults.records = s.faults.records.map fun r => { r with active := false })

/-- Raising a fault and ending it (R171): a record that exists is active with its count one higher; else a new one is
appended, in the place of the oldest inactive one when the list is full, or the overflow flag is set. -/
def Obligations.FaultListRecordsRaisings : Prop :=
  ∀ (f : FaultList) (code : FaultCode) (q : Nat), f.ListOk →
    (∀ before r after, f.records = before ++ r :: after → r.code = code → r.qualifier = q →
      f.raise code q = { f with records := before ++ { r with
        active := true
        count := min 255 (r.count + 1) } :: after } ∧
      f.finish code q = { f with records := before ++ { r with active := false } :: after }) ∧
    ((∀ r ∈ f.records, ¬(r.code = code ∧ r.qualifier = q)) →
      f.finish code q = f ∧
      (f.records.length < 16 → f.raise code q = { f with records := f.records ++ [⟨code, q, f.seconds, 1, true⟩] }) ∧
      (f.records.length = 16 →
        (∀ before r after, f.records = before ++ r :: after → r.active = false → (∀ x ∈ before, x.active = true) →
          f.raise code q = { f with records := before ++ after ++ [⟨code, q, f.seconds, 1, true⟩] }) ∧
        ((∀ r ∈ f.records, r.active = true) → f.raise code q = { f with overflow := true })))

/-- SNAPSHOT, READ_FAULTS and CLEAR_FAULTS with a slot that is not QUEUED and room in the queue (R174, R175), a sweep
RUNNING or not: each is answered OK; page 0, block 0, part 0 takes a new capture, and so does any page when there is
none, and any other page reads the last taken, twelve bytes from 48 times the part and 12 times the page on; READ_FAULTS
answers the records at its index and the next; CLEAR_FAULTS keeps the active records and clears the overflow flag. A
length or an argument outside what the request allows is answered REFUSED RANGE, with no data (log entry 38). What a
capture holds byte by byte rests on log entries 6, 7 and 25. -/
def Obligations.ReadingRequestsAreAnswered : Prop :=
  ∀ (addr : Address) (s : State), s.Serves addr →
    (∀ (q b part : Byte) (args : List Byte), q.toNat ≤ 3 → b.toNat ≤ 11 →
      (args = [q] ∧ b = 0 ∧ part = 0) ∨ (args = [q, b] ∧ part = 0) ∨ args = [q, b, part] →
      ∃ c, exec (.snapshot addr args) s = .next { s with
        link := s.repliedLink addr.sender ([1, 0] ++
          (List.range 12).map fun i => (c.getD b.toNat []).getD (48 * part.toNat + 12 * q.toNat + i) 0)
        service := { s.service with
          slot := .queued
          capture := some c } } ∧
        (q = 0 → b = 0 → part = 0 → c = { s with link := s.heardLink }.captureAll) ∧
        (s.service.capture = none → c = { s with link := s.heardLink }.captureAll) ∧
        (¬(q = 0 ∧ b = 0 ∧ part = 0) → ∀ old, s.service.capture = some old → c = old)) ∧
    (∀ args : List Byte, args.length ≤ 13 →
      args.length = 0 ∨ 3 < args.length ∨ 3 < byteAt args 0 ∨ (1 < args.length ∧ 11 < byteAt args 1) →
      exec (.snapshot addr args) s = .next { s with
        link := s.repliedLink addr.sender [1, 3]
        service := { s.service with slot := .queued } }) ∧
    (∀ i : Byte, i.toNat ≤ 15 →
      exec (.readFaults addr [i]) s = .next { s with
        link := s.repliedLink addr.sender
          ([2, 0] ++ (faultBytes s.faults.records[i.toNat]? ++ faultBytes s.faults.records[i.toNat + 1]?))
        service := { s.service with slot := .queued } }) ∧
    (∀ args : List Byte, args.length ≤ 13 → args.length ≠ 1 ∨ 15 < byteAt args 0 →
      exec (.readFaults addr args) s = .next { s with
        link := s.repliedLink addr.sender [2, 3]
        service := { s.service with slot := .queued } }) ∧
    exec (.clearFaults addr []) s = .next { s with
      link := s.repliedLink addr.sender [3, 0]
      service := { s.service with slot := .queued }
      faults := { s.faults with
        records := s.faults.records.filter (fun r => r.active)
        overflow := false } } ∧
    (∀ args : List Byte, args.length ≤ 13 → args ≠ [] →
      exec (.clearFaults addr args) s = .next { s with
        link := s.repliedLink addr.sender [3, 3]
        service := { s.service with slot := .queued } })

/-- CALIBRATE_HEIGHT (R174, R176) with a slot that is not QUEUED and room: REFUSED BUSY while a sweep is RUNNING, then
REFUSED RANGE for a payload with arguments; in PARK at standstill with both corners VALID, raw heights within −60..+60
become the trims, and raw heights outside are refused with the present trims; REFUSED MODE in any other case. A VALID corner
with no raw height yet is log entry 20; refusals without data are log entry 38. -/
def Obligations.CalibrationSetsBothTrims : Prop :=
  ∀ (addr : Address) (s : State), s.Serves addr →
    (s.sweeping = true → ∀ args : List Byte, args.length ≤ 13 → exec (.calibrateHeight addr args) s = .next { s with
      link := s.repliedLink addr.sender [4, 2]
      service := { s.service with slot := .queued } }) ∧
    (s.sweeping = false → ∀ args : List Byte, args.length ≤ 13 → args ≠ [] →
      exec (.calibrateHeight addr args) s = .next { s with
        link := s.repliedLink addr.sender [4, 3]
        service := { s.service with slot := .queued } }) ∧
    (s.sweeping = false → ∀ l r, s.ladder.mode = .park → s.ladder.qualifier = .standstill →
      s.levelling.corners.left.height.valid = true → s.levelling.corners.right.height.valid = true →
      s.levelling.corners.left.height.value = some l → s.levelling.corners.right.height.value = some r →
      (-60 ≤ l → l ≤ 60 → -60 ≤ r → r ≤ 60 →
        exec (.calibrateHeight addr []) s = .next { s with
          levelling := { s.levelling with
            corners := ⟨{ s.levelling.corners.left with trim := l }, { s.levelling.corners.right with trim := r }⟩ }
          link := s.repliedLink addr.sender ([4, 0] ++ (signedBytesOf 1 l ++ signedBytesOf 1 r))
          service := { s.service with slot := .queued } }) ∧
      (l < -60 ∨ 60 < l ∨ r < -60 ∨ 60 < r →
        exec (.calibrateHeight addr []) s = .next { s with
          link := s.repliedLink addr.sender ([4, 3] ++ (signedBytesOf 1 s.levelling.corners.left.trim ++
            signedBytesOf 1 s.levelling.corners.right.trim))
          service := { s.service with slot := .queued } })) ∧
    (s.sweeping = false → s.ladder.mode ≠ .park ∨ s.ladder.qualifier ≠ .standstill ∨
      s.levelling.corners.left.height.valid = false ∨ s.levelling.corners.right.height.valid = false ∨
      s.levelling.corners.left.height.value = none ∨ s.levelling.corners.right.height.value = none →
      exec (.calibrateHeight addr []) s = .next { s with
        link := s.repliedLink addr.sender [4, 1]
        service := { s.service with slot := .queued } })

/-- COIL_SWEEP and RESTART (R174, R177) with a slot that is not QUEUED and room: REFUSED BUSY while a sweep is RUNNING,
then REFUSED RANGE for a payload with arguments. COIL_SWEEP in PARK under the start conditions takes the drives from
their blocks and starts the sweep with the slot WAITING, or is answered at once when every coil is FAIL; without the
conditions REFUSED MODE. RESTART in PARK is answered OK and armed, in another mode REFUSED MODE. When the sweep
ends, the reply of one byte per coil is offered, or held while the slot is QUEUED. What the slot holds while a reply is
pending is log entry 17, the moment of the drives log entry 31, start-up done after the end log entry 28, refusals
without data log entry 38. -/
def Obligations.SweepAndRestartRequests : Prop :=
  (∀ (addr : Address) (s : State), s.Serves addr →
    (s.sweeping = true → ∀ args : List Byte, args.length ≤ 13 →
      exec (.coilSweep addr args) s = .next { s with
        link := s.repliedLink addr.sender [5, 2]
        service := { s.service with slot := .queued } } ∧
      exec (.restart addr args) s = .next { s with
        link := s.repliedLink addr.sender [6, 2]
        service := { s.service with slot := .queued } }) ∧
    (s.sweeping = false → ∀ args : List Byte, args.length ≤ 13 → args ≠ [] →
      exec (.coilSweep addr args) s = .next { s with
        link := s.repliedLink addr.sender [5, 3]
        service := { s.service with slot := .queued } } ∧
      exec (.restart addr args) s = .next { s with
        link := s.repliedLink addr.sender [6, 3]
        service := { s.service with slot := .queued } }) ∧
    (s.sweeping = false → s.sweepMayRun = true → s.startUp.status = .good → s.ladder.mode = .park →
      (∀ i, i < s.coilCount → s.coilFailed i = false → (∀ j, j < i → s.coilFailed j = true) →
        exec (.coilSweep addr []) s = .next { s.handOver with
          link := s.heardLink
          startUp := { s.startUp with
            sweep := { state := .running, coil := i, step := 0, driveSig := 0, senseSig := 0,
                       pattern := 0xACE1#16 ^^^ BitVec.ofNat 16 s.own.val } }
          service := { s.service with
            slot := .waiting
            sweepFor := some addr.sender } }) ∧
      ((∀ i, i < s.coilCount → s.coilFailed i = true) →
        exec (.coilSweep addr []) s = .next { s.handOver with
          link := s.repliedLink addr.sender ([5, 0] ++ s.coilBytes)
          startUp := { s.startUp with sweep := { s.startUp.sweep with state := .done } }
          service := { s.service with
            slot := .queued
            sweepFor := none } })) ∧
    (s.sweeping = false → s.ladder.mode ≠ .park ∨ s.sweepMayRun = false ∨ s.startUp.status ≠ .good →
      exec (.coilSweep addr []) s = .next { s with
        link := s.repliedLink addr.sender [5, 1]
        service := { s.service with slot := .queued } }) ∧
    (s.sweeping = false → s.ladder.mode = .park → exec (.restart addr []) s = .next { s with
      link := s.repliedLink addr.sender [6, 0]
      service := { s.service with
        slot := .queued
        restartArmed := true } }) ∧
    (s.sweeping = false → s.ladder.mode ≠ .park → exec (.restart addr []) s = .next { s with
      link := s.repliedLink addr.sender [6, 1]
      service := { s.service with slot := .queued } })) ∧
  ∀ (f : Bool) (tool : Fin 8) (s : State), s.sweeping = true → s.service.sweepFor = some tool →
    s.startUp.sweep.coil < s.coilCount →
    (s.sweepMayRun = false ∨ (s.startUp.sweep.step = 31 ∧
      ∀ j, s.startUp.sweep.coil < j → j < s.coilCount → s.coilFailed j = true)) →
    ∃ t, exec (.sweepStep f) s = .next t ∧ t.sweeping = false ∧
      t = { s with
        startUp := t.startUp
        faults := t.faults
        link := t.link
        service := t.service } ∧
      (s.service.slot = .queued → t.link = s.link ∧ t.service = { s.service with
        sweepFor := none
        heldReply := some ⟨tool.val, [5, 0] ++ t.coilBytes⟩ }) ∧
      (s.service.slot ≠ .queued → s.link.listenOnly = false → s.link.queue.length < 8 →
        t.link = Link.updateShed { s.link with queue := s.link.queue ++
          [{ kind := .serviceReply, cls := 3, dest := tool.val, payload := [5, 0] ++ t.coilBytes }] } ∧
        t.service = { s.service with
          slot := .queued
          sweepFor := none })

/-- UNKNOWN_REQUEST (R174): a payload of length 0 is answered with code 0, an unknown code echoed and counted, both
REFUSED UNKNOWN, with no data (log entry 38). A request, by whichever of the seven commands, that reaches no
answer (R159, R174): shed while the flag is set, dropped while the slot is QUEUED, discarded when sent to all
stations. The shed flag is set at a depth of 6 and cleared at 3 (R159). -/
def Obligations.RequestsWithoutServiceAreRefusedOrDropped : Prop :=
  (∀ (addr : Address) (s : State), s.Serves addr →
    exec (.unknownRequest addr []) s = .next { s with
      link := s.repliedLink addr.sender [0, 4]
      service := { s.service with slot := .queued } } ∧
    ∀ (code : Byte) (args : List Byte), args.length ≤ 13 → Request.ofCode code.toNat = none →
      exec (.unknownRequest addr (code :: args)) s = .next { s with
        link := s.repliedLink addr.sender [code, 4]
        service := { s.service with
          slot := .queued
          unknown := bump s.service.unknown } }) ∧
  (∀ (addr : Address) (args : List Byte) (c : Instr) (s : State), s.loaded = true → addr.sender ≠ s.own →
    (args.length ≤ 14 ∧ c = .unknownRequest addr args) ∨ (args.length ≤ 13 ∧
      c ∈ [Instr.snapshot addr args, .readFaults addr args, .clearFaults addr args, .calibrateHeight addr args,
        .coilSweep addr args, .restart addr args]) →
    (s.forUs addr.dest = false → exec c s = .next { s with link := s.heardLink }) ∧
    (s.forUs addr.dest = true → s.link.shed = true → exec c s = .next { s with
      link := { s.heardLink with serviceShed := bump s.link.serviceShed } }) ∧
    (s.link.shed = false → addr.dest = .all → exec c s = .next { s with link := s.heardLink }) ∧
    (s.link.shed = false → addr.dest = .station s.own → s.service.slot = .queued → exec c s = .next { s with
      link := s.heardLink
      service := { s.service with busyDrop := bump s.service.busyDrop } })) ∧
  ∀ l : Link, (6 ≤ l.queue.length → l.updateShed = { l with shed := true }) ∧
    (l.queue.length ≤ 3 → l.updateShed = { l with shed := false }) ∧
    (3 < l.queue.length → l.queue.length < 6 → l.updateShed = l)

/-! ## What every step keeps -/

/-- Every step keeps the transmit queue's rule (R155, R156): at most eight entries, at most one in flight, one STATE,
one DEMAND, one SERVICE_REPLY and four TRACE entries, no two ALERT entries with the same code and qualifier; each entry in
its kind's class but for a promoted STATE (R158); a frame held aside has its matching entry in flight; and a reply is in the queue only while the slot is QUEUED (R174). -/
def Obligations.EveryStepKeepsTheTransmitQueue : Prop := ∀ s t : State, s.LinkOk → step s = .next t → t.LinkOk

/-- Every step keeps the path queue's rule (R42, R44, R46): at most 256 entries with consecutive indices and curvatures
within ±1000, and a rejection run of at most 7. -/
def Obligations.EveryStepKeepsThePathQueue : Prop :=
  ∀ s t : State, s.tracker.PathOk → step s = .next t → t.tracker.PathOk

/-- Every step keeps the remote alert set's and the fault list's rules (R31, R171): at most sixteen entries each, no two
alerts with the same code, qualifier and sender, no two records with the same code and qualifier, and counts of 1 to
255. -/
def Obligations.EveryStepKeepsTheListsDistinct : Prop :=
  ∀ s t : State, s.peerView.AlertsOk → s.faults.ListOk → step s = .next t → t.peerView.AlertsOk ∧ t.faults.ListOk

/-- Every step keeps the steer command and the path steer angle within max lock in magnitude (R57, R59), and at 0 until
the configuration is held (R51). -/
def Obligations.EveryStepKeepsTheCommandWithinLock : Prop := ∀ s t : State, s.SteerOk → step s = .next t → t.SteerOk

/-- Every step keeps this: a RUNNING coil sweep has its conditions, START or PARK, standstill, D = 0, a record that is
not LOST and every own entrance LOCKED, and a good configuration (R167, R169); and while it runs the brake block drives
no modulator (R82), both valves are recorded as CLOSED (R117), and the lock valve and the bridge are off with the
tracking counter at 0 (R55, R61). That all this holds from the moment the sweep starts is log entry 31. -/
def Obligations.EveryStepKeepsSweepsWithinConditions : Prop := ∀ s t : State, s.SweepOk → step s = .next t → t.SweepOk

/-- No own entrance is open in DRIVE or RAISE (R7, R11, R13, R134), kept by every step. The stop-brake valve is
energised while any own entrance is open (R141), kept by every step. -/
def Obligations.EveryStepKeepsEntrancesSafe : Prop :=
  (∀ s t : State, s.DoorsOk → step s = .next t → t.DoorsOk) ∧
  (∀ s t : State, s.ValveOk → step s = .next t → t.ValveOk)

/-- Every step keeps this: no more slices are used than the window limit, and the limit does not exceed the share (R126,
R127). -/
def Obligations.EveryStepKeepsSlicesWithinShare : Prop :=
  ∀ s t : State, s.levelling.SlicesOk → step s = .next t → t.levelling.SlicesOk
end

