-- ==== Sys2Proof/Laws/State.lean ====
section
/-! SUPPORT. What each plain update of the state leaves: one lemma per field per update, true by `rfl`. -/

namespace Sys2Proof.Machine

variable (s : State)

/-! ### raise -/

@[simp] theorem State.raise_pending (c : FaultCode) (q : Nat) : (s.raise c q).pending = s.pending := rfl
@[simp] theorem State.raise_startUp (c : FaultCode) (q : Nat) : (s.raise c q).startUp = s.startUp := rfl
@[simp] theorem State.raise_ladder (c : FaultCode) (q : Nat) : (s.raise c q).ladder = s.ladder := rfl
@[simp] theorem State.raise_peerView (c : FaultCode) (q : Nat) : (s.raise c q).peerView = s.peerView := rfl
@[simp] theorem State.raise_tracker (c : FaultCode) (q : Nat) : (s.raise c q).tracker = s.tracker := rfl
@[simp] theorem State.raise_steering (c : FaultCode) (q : Nat) : (s.raise c q).steering = s.steering := rfl
@[simp] theorem State.raise_joint (c : FaultCode) (q : Nat) : (s.raise c q).joint = s.joint := rfl
@[simp] theorem State.raise_brake (c : FaultCode) (q : Nat) : (s.raise c q).brake = s.brake := rfl
@[simp] theorem State.raise_slip (c : FaultCode) (q : Nat) : (s.raise c q).slip = s.slip := rfl
@[simp] theorem State.raise_levelling (c : FaultCode) (q : Nat) : (s.raise c q).levelling = s.levelling := rfl
@[simp] theorem State.raise_interlock (c : FaultCode) (q : Nat) : (s.raise c q).interlock = s.interlock := rfl
@[simp] theorem State.raise_link (c : FaultCode) (q : Nat) : (s.raise c q).link = s.link := rfl
@[simp] theorem State.raise_service (c : FaultCode) (q : Nat) : (s.raise c q).service = s.service := rfl

/-! ### finish -/

@[simp] theorem State.finish_pending (c : FaultCode) (q : Nat) : (s.finish c q).pending = s.pending := rfl
@[simp] theorem State.finish_startUp (c : FaultCode) (q : Nat) : (s.finish c q).startUp = s.startUp := rfl
@[simp] theorem State.finish_ladder (c : FaultCode) (q : Nat) : (s.finish c q).ladder = s.ladder := rfl
@[simp] theorem State.finish_peerView (c : FaultCode) (q : Nat) : (s.finish c q).peerView = s.peerView := rfl
@[simp] theorem State.finish_tracker (c : FaultCode) (q : Nat) : (s.finish c q).tracker = s.tracker := rfl
@[simp] theorem State.finish_steering (c : FaultCode) (q : Nat) : (s.finish c q).steering = s.steering := rfl
@[simp] theorem State.finish_joint (c : FaultCode) (q : Nat) : (s.finish c q).joint = s.joint := rfl
@[simp] theorem State.finish_brake (c : FaultCode) (q : Nat) : (s.finish c q).brake = s.brake := rfl
@[simp] theorem State.finish_slip (c : FaultCode) (q : Nat) : (s.finish c q).slip = s.slip := rfl
@[simp] theorem State.finish_levelling (c : FaultCode) (q : Nat) : (s.finish c q).levelling = s.levelling := rfl
@[simp] theorem State.finish_interlock (c : FaultCode) (q : Nat) : (s.finish c q).interlock = s.interlock := rfl
@[simp] theorem State.finish_link (c : FaultCode) (q : Nat) : (s.finish c q).link = s.link := rfl
@[simp] theorem State.finish_service (c : FaultCode) (q : Nat) : (s.finish c q).service = s.service := rfl

/-! ### putPeer -/

@[simp] theorem State.putPeer_pending (n : Fin 8) (p : Peer) : (s.putPeer n p).pending = s.pending := rfl
@[simp] theorem State.putPeer_startUp (n : Fin 8) (p : Peer) : (s.putPeer n p).startUp = s.startUp := rfl
@[simp] theorem State.putPeer_ladder (n : Fin 8) (p : Peer) : (s.putPeer n p).ladder = s.ladder := rfl
@[simp] theorem State.putPeer_tracker (n : Fin 8) (p : Peer) : (s.putPeer n p).tracker = s.tracker := rfl
@[simp] theorem State.putPeer_steering (n : Fin 8) (p : Peer) : (s.putPeer n p).steering = s.steering := rfl
@[simp] theorem State.putPeer_joint (n : Fin 8) (p : Peer) : (s.putPeer n p).joint = s.joint := rfl
@[simp] theorem State.putPeer_brake (n : Fin 8) (p : Peer) : (s.putPeer n p).brake = s.brake := rfl
@[simp] theorem State.putPeer_slip (n : Fin 8) (p : Peer) : (s.putPeer n p).slip = s.slip := rfl
@[simp] theorem State.putPeer_levelling (n : Fin 8) (p : Peer) : (s.putPeer n p).levelling = s.levelling := rfl
@[simp] theorem State.putPeer_interlock (n : Fin 8) (p : Peer) : (s.putPeer n p).interlock = s.interlock := rfl
@[simp] theorem State.putPeer_link (n : Fin 8) (p : Peer) : (s.putPeer n p).link = s.link := rfl
@[simp] theorem State.putPeer_faults (n : Fin 8) (p : Peer) : (s.putPeer n p).faults = s.faults := rfl
@[simp] theorem State.putPeer_service (n : Fin 8) (p : Peer) : (s.putPeer n p).service = s.service := rfl

/-! ### countMalformed -/

@[simp] theorem State.countMalformed_pending : (s.countMalformed).pending = s.pending := rfl
@[simp] theorem State.countMalformed_startUp : (s.countMalformed).startUp = s.startUp := rfl
@[simp] theorem State.countMalformed_ladder : (s.countMalformed).ladder = s.ladder := rfl
@[simp] theorem State.countMalformed_tracker : (s.countMalformed).tracker = s.tracker := rfl
@[simp] theorem State.countMalformed_steering : (s.countMalformed).steering = s.steering := rfl
@[simp] theorem State.countMalformed_joint : (s.countMalformed).joint = s.joint := rfl
@[simp] theorem State.countMalformed_brake : (s.countMalformed).brake = s.brake := rfl
@[simp] theorem State.countMalformed_slip : (s.countMalformed).slip = s.slip := rfl
@[simp] theorem State.countMalformed_levelling : (s.countMalformed).levelling = s.levelling := rfl
@[simp] theorem State.countMalformed_interlock : (s.countMalformed).interlock = s.interlock := rfl
@[simp] theorem State.countMalformed_link : (s.countMalformed).link = s.link := rfl
@[simp] theorem State.countMalformed_faults : (s.countMalformed).faults = s.faults := rfl
@[simp] theorem State.countMalformed_service : (s.countMalformed).service = s.service := rfl

/-! ### markDemand -/

@[simp] theorem State.markDemand_pending (f : Freshness) : (s.markDemand f).pending = s.pending := rfl
@[simp] theorem State.markDemand_startUp (f : Freshness) : (s.markDemand f).startUp = s.startUp := rfl
@[simp] theorem State.markDemand_ladder (f : Freshness) : (s.markDemand f).ladder = s.ladder := rfl
@[simp] theorem State.markDemand_tracker (f : Freshness) : (s.markDemand f).tracker = s.tracker := rfl
@[simp] theorem State.markDemand_steering (f : Freshness) : (s.markDemand f).steering = s.steering := rfl
@[simp] theorem State.markDemand_joint (f : Freshness) : (s.markDemand f).joint = s.joint := rfl
@[simp] theorem State.markDemand_brake (f : Freshness) : (s.markDemand f).brake = s.brake := rfl
@[simp] theorem State.markDemand_slip (f : Freshness) : (s.markDemand f).slip = s.slip := rfl
@[simp] theorem State.markDemand_levelling (f : Freshness) : (s.markDemand f).levelling = s.levelling := rfl
@[simp] theorem State.markDemand_interlock (f : Freshness) : (s.markDemand f).interlock = s.interlock := rfl
@[simp] theorem State.markDemand_link (f : Freshness) : (s.markDemand f).link = s.link := rfl
@[simp] theorem State.markDemand_faults (f : Freshness) : (s.markDemand f).faults = s.faults := rfl
@[simp] theorem State.markDemand_service (f : Freshness) : (s.markDemand f).service = s.service := rfl

/-! ### countStranger -/

@[simp] theorem State.countStranger_pending : (s.countStranger).pending = s.pending := rfl
@[simp] theorem State.countStranger_startUp : (s.countStranger).startUp = s.startUp := rfl
@[simp] theorem State.countStranger_ladder : (s.countStranger).ladder = s.ladder := rfl
@[simp] theorem State.countStranger_tracker : (s.countStranger).tracker = s.tracker := rfl
@[simp] theorem State.countStranger_steering : (s.countStranger).steering = s.steering := rfl
@[simp] theorem State.countStranger_joint : (s.countStranger).joint = s.joint := rfl
@[simp] theorem State.countStranger_brake : (s.countStranger).brake = s.brake := rfl
@[simp] theorem State.countStranger_slip : (s.countStranger).slip = s.slip := rfl
@[simp] theorem State.countStranger_levelling : (s.countStranger).levelling = s.levelling := rfl
@[simp] theorem State.countStranger_interlock : (s.countStranger).interlock = s.interlock := rfl
@[simp] theorem State.countStranger_link : (s.countStranger).link = s.link := rfl
@[simp] theorem State.countStranger_faults : (s.countStranger).faults = s.faults := rfl
@[simp] theorem State.countStranger_service : (s.countStranger).service = s.service := rfl

/-! ### countForeignDemand -/

@[simp] theorem State.countForeignDemand_pending : (s.countForeignDemand).pending = s.pending := rfl
@[simp] theorem State.countForeignDemand_startUp : (s.countForeignDemand).startUp = s.startUp := rfl
@[simp] theorem State.countForeignDemand_ladder : (s.countForeignDemand).ladder = s.ladder := rfl
@[simp] theorem State.countForeignDemand_tracker : (s.countForeignDemand).tracker = s.tracker := rfl
@[simp] theorem State.countForeignDemand_steering : (s.countForeignDemand).steering = s.steering := rfl
@[simp] theorem State.countForeignDemand_joint : (s.countForeignDemand).joint = s.joint := rfl
@[simp] theorem State.countForeignDemand_brake : (s.countForeignDemand).brake = s.brake := rfl
@[simp] theorem State.countForeignDemand_slip : (s.countForeignDemand).slip = s.slip := rfl
@[simp] theorem State.countForeignDemand_levelling : (s.countForeignDemand).levelling = s.levelling := rfl
@[simp] theorem State.countForeignDemand_interlock : (s.countForeignDemand).interlock = s.interlock := rfl
@[simp] theorem State.countForeignDemand_link : (s.countForeignDemand).link = s.link := rfl
@[simp] theorem State.countForeignDemand_faults : (s.countForeignDemand).faults = s.faults := rfl
@[simp] theorem State.countForeignDemand_service : (s.countForeignDemand).service = s.service := rfl

/-! ### countForeignTrace -/

@[simp] theorem State.countForeignTrace_pending : (s.countForeignTrace).pending = s.pending := rfl
@[simp] theorem State.countForeignTrace_startUp : (s.countForeignTrace).startUp = s.startUp := rfl
@[simp] theorem State.countForeignTrace_ladder : (s.countForeignTrace).ladder = s.ladder := rfl
@[simp] theorem State.countForeignTrace_tracker : (s.countForeignTrace).tracker = s.tracker := rfl
@[simp] theorem State.countForeignTrace_steering : (s.countForeignTrace).steering = s.steering := rfl
@[simp] theorem State.countForeignTrace_joint : (s.countForeignTrace).joint = s.joint := rfl
@[simp] theorem State.countForeignTrace_brake : (s.countForeignTrace).brake = s.brake := rfl
@[simp] theorem State.countForeignTrace_slip : (s.countForeignTrace).slip = s.slip := rfl
@[simp] theorem State.countForeignTrace_levelling : (s.countForeignTrace).levelling = s.levelling := rfl
@[simp] theorem State.countForeignTrace_interlock : (s.countForeignTrace).interlock = s.interlock := rfl
@[simp] theorem State.countForeignTrace_link : (s.countForeignTrace).link = s.link := rfl
@[simp] theorem State.countForeignTrace_faults : (s.countForeignTrace).faults = s.faults := rfl
@[simp] theorem State.countForeignTrace_service : (s.countForeignTrace).service = s.service := rfl

/-! ### freshenDemand -/

@[simp] theorem State.freshenDemand_pending (v : DemandValues) : (s.freshenDemand v).pending = s.pending := rfl
@[simp] theorem State.freshenDemand_startUp (v : DemandValues) : (s.freshenDemand v).startUp = s.startUp := rfl
@[simp] theorem State.freshenDemand_tracker (v : DemandValues) : (s.freshenDemand v).tracker = s.tracker := rfl
@[simp] theorem State.freshenDemand_steering (v : DemandValues) : (s.freshenDemand v).steering = s.steering := rfl
@[simp] theorem State.freshenDemand_joint (v : DemandValues) : (s.freshenDemand v).joint = s.joint := rfl
@[simp] theorem State.freshenDemand_brake (v : DemandValues) : (s.freshenDemand v).brake = s.brake := rfl
@[simp] theorem State.freshenDemand_slip (v : DemandValues) : (s.freshenDemand v).slip = s.slip := rfl
@[simp] theorem State.freshenDemand_levelling (v : DemandValues) : (s.freshenDemand v).levelling = s.levelling := rfl
@[simp] theorem State.freshenDemand_interlock (v : DemandValues) : (s.freshenDemand v).interlock = s.interlock := rfl
@[simp] theorem State.freshenDemand_link (v : DemandValues) : (s.freshenDemand v).link = s.link := rfl
@[simp] theorem State.freshenDemand_service (v : DemandValues) : (s.freshenDemand v).service = s.service := rfl

/-! ### putWheel -/

@[simp] theorem State.putWheel_pending (side : Side) (w : Wheel) : (s.putWheel side w).pending = s.pending := rfl
@[simp] theorem State.putWheel_startUp (side : Side) (w : Wheel) : (s.putWheel side w).startUp = s.startUp := rfl
@[simp] theorem State.putWheel_ladder (side : Side) (w : Wheel) : (s.putWheel side w).ladder = s.ladder := rfl
@[simp] theorem State.putWheel_peerView (side : Side) (w : Wheel) : (s.putWheel side w).peerView = s.peerView := rfl
@[simp] theorem State.putWheel_tracker (side : Side) (w : Wheel) : (s.putWheel side w).tracker = s.tracker := rfl
@[simp] theorem State.putWheel_steering (side : Side) (w : Wheel) : (s.putWheel side w).steering = s.steering := rfl
@[simp] theorem State.putWheel_joint (side : Side) (w : Wheel) : (s.putWheel side w).joint = s.joint := rfl
@[simp] theorem State.putWheel_brake (side : Side) (w : Wheel) : (s.putWheel side w).brake = s.brake := rfl
@[simp] theorem State.putWheel_levelling (side : Side) (w : Wheel) : (s.putWheel side w).levelling = s.levelling := rfl
@[simp] theorem State.putWheel_interlock (side : Side) (w : Wheel) : (s.putWheel side w).interlock = s.interlock := rfl
@[simp] theorem State.putWheel_link (side : Side) (w : Wheel) : (s.putWheel side w).link = s.link := rfl
@[simp] theorem State.putWheel_faults (side : Side) (w : Wheel) : (s.putWheel side w).faults = s.faults := rfl
@[simp] theorem State.putWheel_service (side : Side) (w : Wheel) : (s.putWheel side w).service = s.service := rfl

/-! ### closeWindows -/

@[simp] theorem State.closeWindows_pending : (s.closeWindows).pending = s.pending := rfl
@[simp] theorem State.closeWindows_startUp : (s.closeWindows).startUp = s.startUp := rfl
@[simp] theorem State.closeWindows_ladder : (s.closeWindows).ladder = s.ladder := rfl
@[simp] theorem State.closeWindows_peerView : (s.closeWindows).peerView = s.peerView := rfl
@[simp] theorem State.closeWindows_tracker : (s.closeWindows).tracker = s.tracker := rfl
@[simp] theorem State.closeWindows_steering : (s.closeWindows).steering = s.steering := rfl
@[simp] theorem State.closeWindows_joint : (s.closeWindows).joint = s.joint := rfl
@[simp] theorem State.closeWindows_brake : (s.closeWindows).brake = s.brake := rfl
@[simp] theorem State.closeWindows_levelling : (s.closeWindows).levelling = s.levelling := rfl
@[simp] theorem State.closeWindows_interlock : (s.closeWindows).interlock = s.interlock := rfl
@[simp] theorem State.closeWindows_link : (s.closeWindows).link = s.link := rfl
@[simp] theorem State.closeWindows_faults : (s.closeWindows).faults = s.faults := rfl
@[simp] theorem State.closeWindows_service : (s.closeWindows).service = s.service := rfl

/-! ### measureSlip -/

@[simp] theorem State.measureSlip_pending : (s.measureSlip).pending = s.pending := rfl
@[simp] theorem State.measureSlip_startUp : (s.measureSlip).startUp = s.startUp := rfl
@[simp] theorem State.measureSlip_ladder : (s.measureSlip).ladder = s.ladder := rfl
@[simp] theorem State.measureSlip_peerView : (s.measureSlip).peerView = s.peerView := rfl
@[simp] theorem State.measureSlip_tracker : (s.measureSlip).tracker = s.tracker := rfl
@[simp] theorem State.measureSlip_steering : (s.measureSlip).steering = s.steering := rfl
@[simp] theorem State.measureSlip_joint : (s.measureSlip).joint = s.joint := rfl
@[simp] theorem State.measureSlip_brake : (s.measureSlip).brake = s.brake := rfl
@[simp] theorem State.measureSlip_levelling : (s.measureSlip).levelling = s.levelling := rfl
@[simp] theorem State.measureSlip_interlock : (s.measureSlip).interlock = s.interlock := rfl
@[simp] theorem State.measureSlip_link : (s.measureSlip).link = s.link := rfl
@[simp] theorem State.measureSlip_faults : (s.measureSlip).faults = s.faults := rfl
@[simp] theorem State.measureSlip_service : (s.measureSlip).service = s.service := rfl

/-! ### actWheel -/

@[simp] theorem State.actWheel_pending (side : Side) : (s.actWheel side).pending = s.pending := rfl
@[simp] theorem State.actWheel_startUp (side : Side) : (s.actWheel side).startUp = s.startUp := rfl
@[simp] theorem State.actWheel_ladder (side : Side) : (s.actWheel side).ladder = s.ladder := rfl
@[simp] theorem State.actWheel_peerView (side : Side) : (s.actWheel side).peerView = s.peerView := rfl
@[simp] theorem State.actWheel_tracker (side : Side) : (s.actWheel side).tracker = s.tracker := rfl
@[simp] theorem State.actWheel_steering (side : Side) : (s.actWheel side).steering = s.steering := rfl
@[simp] theorem State.actWheel_joint (side : Side) : (s.actWheel side).joint = s.joint := rfl
@[simp] theorem State.actWheel_brake (side : Side) : (s.actWheel side).brake = s.brake := rfl
@[simp] theorem State.actWheel_levelling (side : Side) : (s.actWheel side).levelling = s.levelling := rfl
@[simp] theorem State.actWheel_interlock (side : Side) : (s.actWheel side).interlock = s.interlock := rfl
@[simp] theorem State.actWheel_link (side : Side) : (s.actWheel side).link = s.link := rfl
@[simp] theorem State.actWheel_faults (side : Side) : (s.actWheel side).faults = s.faults := rfl
@[simp] theorem State.actWheel_service (side : Side) : (s.actWheel side).service = s.service := rfl

/-! ### putCorner -/

@[simp] theorem State.putCorner_pending (side : Side) (c : Corner) : (s.putCorner side c).pending = s.pending := rfl
@[simp] theorem State.putCorner_startUp (side : Side) (c : Corner) : (s.putCorner side c).startUp = s.startUp := rfl
@[simp] theorem State.putCorner_ladder (side : Side) (c : Corner) : (s.putCorner side c).ladder = s.ladder := rfl
@[simp] theorem State.putCorner_peerView (side : Side) (c : Corner) : (s.putCorner side c).peerView = s.peerView := rfl
@[simp] theorem State.putCorner_tracker (side : Side) (c : Corner) : (s.putCorner side c).tracker = s.tracker := rfl
@[simp] theorem State.putCorner_steering (side : Side) (c : Corner) : (s.putCorner side c).steering = s.steering := rfl
@[simp] theorem State.putCorner_joint (side : Side) (c : Corner) : (s.putCorner side c).joint = s.joint := rfl
@[simp] theorem State.putCorner_brake (side : Side) (c : Corner) : (s.putCorner side c).brake = s.brake := rfl
@[simp] theorem State.putCorner_slip (side : Side) (c : Corner) : (s.putCorner side c).slip = s.slip := rfl
@[simp] theorem State.putCorner_interlock (side : Side) (c : Corner) : (s.putCorner side c).interlock = s.interlock := rfl
@[simp] theorem State.putCorner_link (side : Side) (c : Corner) : (s.putCorner side c).link = s.link := rfl
@[simp] theorem State.putCorner_faults (side : Side) (c : Corner) : (s.putCorner side c).faults = s.faults := rfl
@[simp] theorem State.putCorner_service (side : Side) (c : Corner) : (s.putCorner side c).service = s.service := rfl

/-! ### updateBand -/

@[simp] theorem State.updateBand_pending : (s.updateBand).pending = s.pending := rfl
@[simp] theorem State.updateBand_startUp : (s.updateBand).startUp = s.startUp := rfl
@[simp] theorem State.updateBand_ladder : (s.updateBand).ladder = s.ladder := rfl
@[simp] theorem State.updateBand_peerView : (s.updateBand).peerView = s.peerView := rfl
@[simp] theorem State.updateBand_tracker : (s.updateBand).tracker = s.tracker := rfl
@[simp] theorem State.updateBand_steering : (s.updateBand).steering = s.steering := rfl
@[simp] theorem State.updateBand_joint : (s.updateBand).joint = s.joint := rfl
@[simp] theorem State.updateBand_brake : (s.updateBand).brake = s.brake := rfl
@[simp] theorem State.updateBand_slip : (s.updateBand).slip = s.slip := rfl
@[simp] theorem State.updateBand_interlock : (s.updateBand).interlock = s.interlock := rfl
@[simp] theorem State.updateBand_link : (s.updateBand).link = s.link := rfl
@[simp] theorem State.updateBand_faults : (s.updateBand).faults = s.faults := rfl
@[simp] theorem State.updateBand_service : (s.updateBand).service = s.service := rfl

/-! ### cutWindow -/

@[simp] theorem State.cutWindow_pending : (s.cutWindow).pending = s.pending := rfl
@[simp] theorem State.cutWindow_startUp : (s.cutWindow).startUp = s.startUp := rfl
@[simp] theorem State.cutWindow_ladder : (s.cutWindow).ladder = s.ladder := rfl
@[simp] theorem State.cutWindow_peerView : (s.cutWindow).peerView = s.peerView := rfl
@[simp] theorem State.cutWindow_tracker : (s.cutWindow).tracker = s.tracker := rfl
@[simp] theorem State.cutWindow_steering : (s.cutWindow).steering = s.steering := rfl
@[simp] theorem State.cutWindow_joint : (s.cutWindow).joint = s.joint := rfl
@[simp] theorem State.cutWindow_brake : (s.cutWindow).brake = s.brake := rfl
@[simp] theorem State.cutWindow_slip : (s.cutWindow).slip = s.slip := rfl
@[simp] theorem State.cutWindow_interlock : (s.cutWindow).interlock = s.interlock := rfl
@[simp] theorem State.cutWindow_link : (s.cutWindow).link = s.link := rfl
@[simp] theorem State.cutWindow_faults : (s.cutWindow).faults = s.faults := rfl
@[simp] theorem State.cutWindow_service : (s.cutWindow).service = s.service := rfl

/-! ### startWindow -/

@[simp] theorem State.startWindow_pending : (s.startWindow).pending = s.pending := rfl
@[simp] theorem State.startWindow_startUp : (s.startWindow).startUp = s.startUp := rfl
@[simp] theorem State.startWindow_ladder : (s.startWindow).ladder = s.ladder := rfl
@[simp] theorem State.startWindow_peerView : (s.startWindow).peerView = s.peerView := rfl
@[simp] theorem State.startWindow_tracker : (s.startWindow).tracker = s.tracker := rfl
@[simp] theorem State.startWindow_steering : (s.startWindow).steering = s.steering := rfl
@[simp] theorem State.startWindow_joint : (s.startWindow).joint = s.joint := rfl
@[simp] theorem State.startWindow_brake : (s.startWindow).brake = s.brake := rfl
@[simp] theorem State.startWindow_slip : (s.startWindow).slip = s.slip := rfl
@[simp] theorem State.startWindow_interlock : (s.startWindow).interlock = s.interlock := rfl
@[simp] theorem State.startWindow_link : (s.startWindow).link = s.link := rfl
@[simp] theorem State.startWindow_faults : (s.startWindow).faults = s.faults := rfl
@[simp] theorem State.startWindow_service : (s.startWindow).service = s.service := rfl

/-! ### setFilling -/

@[simp] theorem State.setFilling_pending : (s.setFilling).pending = s.pending := rfl
@[simp] theorem State.setFilling_startUp : (s.setFilling).startUp = s.startUp := rfl
@[simp] theorem State.setFilling_ladder : (s.setFilling).ladder = s.ladder := rfl
@[simp] theorem State.setFilling_peerView : (s.setFilling).peerView = s.peerView := rfl
@[simp] theorem State.setFilling_tracker : (s.setFilling).tracker = s.tracker := rfl
@[simp] theorem State.setFilling_steering : (s.setFilling).steering = s.steering := rfl
@[simp] theorem State.setFilling_joint : (s.setFilling).joint = s.joint := rfl
@[simp] theorem State.setFilling_brake : (s.setFilling).brake = s.brake := rfl
@[simp] theorem State.setFilling_slip : (s.setFilling).slip = s.slip := rfl
@[simp] theorem State.setFilling_interlock : (s.setFilling).interlock = s.interlock := rfl
@[simp] theorem State.setFilling_link : (s.setFilling).link = s.link := rfl
@[simp] theorem State.setFilling_faults : (s.setFilling).faults = s.faults := rfl
@[simp] theorem State.setFilling_service : (s.setFilling).service = s.service := rfl

/-! ### noteTrims -/

@[simp] theorem State.noteTrims_pending : (s.noteTrims).pending = s.pending := rfl
@[simp] theorem State.noteTrims_startUp : (s.noteTrims).startUp = s.startUp := rfl
@[simp] theorem State.noteTrims_ladder : (s.noteTrims).ladder = s.ladder := rfl
@[simp] theorem State.noteTrims_peerView : (s.noteTrims).peerView = s.peerView := rfl
@[simp] theorem State.noteTrims_tracker : (s.noteTrims).tracker = s.tracker := rfl
@[simp] theorem State.noteTrims_steering : (s.noteTrims).steering = s.steering := rfl
@[simp] theorem State.noteTrims_joint : (s.noteTrims).joint = s.joint := rfl
@[simp] theorem State.noteTrims_brake : (s.noteTrims).brake = s.brake := rfl
@[simp] theorem State.noteTrims_slip : (s.noteTrims).slip = s.slip := rfl
@[simp] theorem State.noteTrims_interlock : (s.noteTrims).interlock = s.interlock := rfl
@[simp] theorem State.noteTrims_link : (s.noteTrims).link = s.link := rfl
@[simp] theorem State.noteTrims_faults : (s.noteTrims).faults = s.faults := rfl
@[simp] theorem State.noteTrims_service : (s.noteTrims).service = s.service := rfl

/-! ### setTrims -/

@[simp] theorem State.setTrims_pending (l r : Int) : (s.setTrims l r).pending = s.pending := rfl
@[simp] theorem State.setTrims_startUp (l r : Int) : (s.setTrims l r).startUp = s.startUp := rfl
@[simp] theorem State.setTrims_ladder (l r : Int) : (s.setTrims l r).ladder = s.ladder := rfl
@[simp] theorem State.setTrims_peerView (l r : Int) : (s.setTrims l r).peerView = s.peerView := rfl
@[simp] theorem State.setTrims_tracker (l r : Int) : (s.setTrims l r).tracker = s.tracker := rfl
@[simp] theorem State.setTrims_steering (l r : Int) : (s.setTrims l r).steering = s.steering := rfl
@[simp] theorem State.setTrims_joint (l r : Int) : (s.setTrims l r).joint = s.joint := rfl
@[simp] theorem State.setTrims_brake (l r : Int) : (s.setTrims l r).brake = s.brake := rfl
@[simp] theorem State.setTrims_slip (l r : Int) : (s.setTrims l r).slip = s.slip := rfl
@[simp] theorem State.setTrims_interlock (l r : Int) : (s.setTrims l r).interlock = s.interlock := rfl
@[simp] theorem State.setTrims_link (l r : Int) : (s.setTrims l r).link = s.link := rfl
@[simp] theorem State.setTrims_faults (l r : Int) : (s.setTrims l r).faults = s.faults := rfl
@[simp] theorem State.setTrims_service (l r : Int) : (s.setTrims l r).service = s.service := rfl

/-! ### putEntrance -/

@[simp] theorem State.putEntrance_pending (slot : Slot) (e : Entrance) : (s.putEntrance slot e).pending = s.pending := rfl
@[simp] theorem State.putEntrance_startUp (slot : Slot) (e : Entrance) : (s.putEntrance slot e).startUp = s.startUp := rfl
@[simp] theorem State.putEntrance_ladder (slot : Slot) (e : Entrance) : (s.putEntrance slot e).ladder = s.ladder := rfl
@[simp] theorem State.putEntrance_peerView (slot : Slot) (e : Entrance) : (s.putEntrance slot e).peerView = s.peerView := rfl
@[simp] theorem State.putEntrance_tracker (slot : Slot) (e : Entrance) : (s.putEntrance slot e).tracker = s.tracker := rfl
@[simp] theorem State.putEntrance_steering (slot : Slot) (e : Entrance) : (s.putEntrance slot e).steering = s.steering := rfl
@[simp] theorem State.putEntrance_joint (slot : Slot) (e : Entrance) : (s.putEntrance slot e).joint = s.joint := rfl
@[simp] theorem State.putEntrance_brake (slot : Slot) (e : Entrance) : (s.putEntrance slot e).brake = s.brake := rfl
@[simp] theorem State.putEntrance_slip (slot : Slot) (e : Entrance) : (s.putEntrance slot e).slip = s.slip := rfl
@[simp] theorem State.putEntrance_levelling (slot : Slot) (e : Entrance) : (s.putEntrance slot e).levelling = s.levelling := rfl
@[simp] theorem State.putEntrance_link (slot : Slot) (e : Entrance) : (s.putEntrance slot e).link = s.link := rfl
@[simp] theorem State.putEntrance_faults (slot : Slot) (e : Entrance) : (s.putEntrance slot e).faults = s.faults := rfl
@[simp] theorem State.putEntrance_service (slot : Slot) (e : Entrance) : (s.putEntrance slot e).service = s.service := rfl

/-! ### setOutputs -/

@[simp] theorem State.setOutputs_pending : (s.setOutputs).pending = s.pending := rfl
@[simp] theorem State.setOutputs_startUp : (s.setOutputs).startUp = s.startUp := rfl
@[simp] theorem State.setOutputs_ladder : (s.setOutputs).ladder = s.ladder := rfl
@[simp] theorem State.setOutputs_peerView : (s.setOutputs).peerView = s.peerView := rfl
@[simp] theorem State.setOutputs_tracker : (s.setOutputs).tracker = s.tracker := rfl
@[simp] theorem State.setOutputs_steering : (s.setOutputs).steering = s.steering := rfl
@[simp] theorem State.setOutputs_joint : (s.setOutputs).joint = s.joint := rfl
@[simp] theorem State.setOutputs_brake : (s.setOutputs).brake = s.brake := rfl
@[simp] theorem State.setOutputs_slip : (s.setOutputs).slip = s.slip := rfl
@[simp] theorem State.setOutputs_levelling : (s.setOutputs).levelling = s.levelling := rfl
@[simp] theorem State.setOutputs_link : (s.setOutputs).link = s.link := rfl
@[simp] theorem State.setOutputs_faults : (s.setOutputs).faults = s.faults := rfl
@[simp] theorem State.setOutputs_service : (s.setOutputs).service = s.service := rfl

/-! ### setValve -/

@[simp] theorem State.setValve_pending : (s.setValve).pending = s.pending := rfl
@[simp] theorem State.setValve_startUp : (s.setValve).startUp = s.startUp := rfl
@[simp] theorem State.setValve_ladder : (s.setValve).ladder = s.ladder := rfl
@[simp] theorem State.setValve_peerView : (s.setValve).peerView = s.peerView := rfl
@[simp] theorem State.setValve_tracker : (s.setValve).tracker = s.tracker := rfl
@[simp] theorem State.setValve_steering : (s.setValve).steering = s.steering := rfl
@[simp] theorem State.setValve_joint : (s.setValve).joint = s.joint := rfl
@[simp] theorem State.setValve_brake : (s.setValve).brake = s.brake := rfl
@[simp] theorem State.setValve_slip : (s.setValve).slip = s.slip := rfl
@[simp] theorem State.setValve_levelling : (s.setValve).levelling = s.levelling := rfl
@[simp] theorem State.setValve_link : (s.setValve).link = s.link := rfl
@[simp] theorem State.setValve_faults : (s.setValve).faults = s.faults := rfl
@[simp] theorem State.setValve_service : (s.setValve).service = s.service := rfl

/-! ### setFlags -/

@[simp] theorem State.setFlags_pending : (s.setFlags).pending = s.pending := rfl
@[simp] theorem State.setFlags_startUp : (s.setFlags).startUp = s.startUp := rfl
@[simp] theorem State.setFlags_ladder : (s.setFlags).ladder = s.ladder := rfl
@[simp] theorem State.setFlags_peerView : (s.setFlags).peerView = s.peerView := rfl
@[simp] theorem State.setFlags_tracker : (s.setFlags).tracker = s.tracker := rfl
@[simp] theorem State.setFlags_steering : (s.setFlags).steering = s.steering := rfl
@[simp] theorem State.setFlags_joint : (s.setFlags).joint = s.joint := rfl
@[simp] theorem State.setFlags_brake : (s.setFlags).brake = s.brake := rfl
@[simp] theorem State.setFlags_slip : (s.setFlags).slip = s.slip := rfl
@[simp] theorem State.setFlags_levelling : (s.setFlags).levelling = s.levelling := rfl
@[simp] theorem State.setFlags_link : (s.setFlags).link = s.link := rfl
@[simp] theorem State.setFlags_faults : (s.setFlags).faults = s.faults := rfl
@[simp] theorem State.setFlags_service : (s.setFlags).service = s.service := rfl

/-! ### setLines -/

@[simp] theorem State.setLines_pending (w : Switches) : (s.setLines w).pending = s.pending := rfl
@[simp] theorem State.setLines_startUp (w : Switches) : (s.setLines w).startUp = s.startUp := rfl
@[simp] theorem State.setLines_ladder (w : Switches) : (s.setLines w).ladder = s.ladder := rfl
@[simp] theorem State.setLines_peerView (w : Switches) : (s.setLines w).peerView = s.peerView := rfl
@[simp] theorem State.setLines_tracker (w : Switches) : (s.setLines w).tracker = s.tracker := rfl
@[simp] theorem State.setLines_steering (w : Switches) : (s.setLines w).steering = s.steering := rfl
@[simp] theorem State.setLines_joint (w : Switches) : (s.setLines w).joint = s.joint := rfl
@[simp] theorem State.setLines_brake (w : Switches) : (s.setLines w).brake = s.brake := rfl
@[simp] theorem State.setLines_slip (w : Switches) : (s.setLines w).slip = s.slip := rfl
@[simp] theorem State.setLines_levelling (w : Switches) : (s.setLines w).levelling = s.levelling := rfl
@[simp] theorem State.setLines_link (w : Switches) : (s.setLines w).link = s.link := rfl
@[simp] theorem State.setLines_faults (w : Switches) : (s.setLines w).faults = s.faults := rfl
@[simp] theorem State.setLines_service (w : Switches) : (s.setLines w).service = s.service := rfl

/-! ### updateQualifier -/

@[simp] theorem State.updateQualifier_pending : (s.updateQualifier).pending = s.pending := rfl
@[simp] theorem State.updateQualifier_startUp : (s.updateQualifier).startUp = s.startUp := rfl
@[simp] theorem State.updateQualifier_peerView : (s.updateQualifier).peerView = s.peerView := rfl
@[simp] theorem State.updateQualifier_tracker : (s.updateQualifier).tracker = s.tracker := rfl
@[simp] theorem State.updateQualifier_steering : (s.updateQualifier).steering = s.steering := rfl
@[simp] theorem State.updateQualifier_joint : (s.updateQualifier).joint = s.joint := rfl
@[simp] theorem State.updateQualifier_brake : (s.updateQualifier).brake = s.brake := rfl
@[simp] theorem State.updateQualifier_slip : (s.updateQualifier).slip = s.slip := rfl
@[simp] theorem State.updateQualifier_levelling : (s.updateQualifier).levelling = s.levelling := rfl
@[simp] theorem State.updateQualifier_interlock : (s.updateQualifier).interlock = s.interlock := rfl
@[simp] theorem State.updateQualifier_link : (s.updateQualifier).link = s.link := rfl
@[simp] theorem State.updateQualifier_faults : (s.updateQualifier).faults = s.faults := rfl
@[simp] theorem State.updateQualifier_service : (s.updateQualifier).service = s.service := rfl

/-! ### ladderInputs -/

@[simp] theorem State.ladderInputs_pending : (s.ladderInputs).pending = s.pending := rfl
@[simp] theorem State.ladderInputs_startUp : (s.ladderInputs).startUp = s.startUp := rfl
@[simp] theorem State.ladderInputs_peerView : (s.ladderInputs).peerView = s.peerView := rfl
@[simp] theorem State.ladderInputs_tracker : (s.ladderInputs).tracker = s.tracker := rfl
@[simp] theorem State.ladderInputs_steering : (s.ladderInputs).steering = s.steering := rfl
@[simp] theorem State.ladderInputs_joint : (s.ladderInputs).joint = s.joint := rfl
@[simp] theorem State.ladderInputs_brake : (s.ladderInputs).brake = s.brake := rfl
@[simp] theorem State.ladderInputs_slip : (s.ladderInputs).slip = s.slip := rfl
@[simp] theorem State.ladderInputs_levelling : (s.ladderInputs).levelling = s.levelling := rfl
@[simp] theorem State.ladderInputs_interlock : (s.ladderInputs).interlock = s.interlock := rfl
@[simp] theorem State.ladderInputs_link : (s.ladderInputs).link = s.link := rfl
@[simp] theorem State.ladderInputs_faults : (s.ladderInputs).faults = s.faults := rfl
@[simp] theorem State.ladderInputs_service : (s.ladderInputs).service = s.service := rfl

/-! ### decideBrake -/

@[simp] theorem State.decideBrake_pending : (s.decideBrake).pending = s.pending := rfl
@[simp] theorem State.decideBrake_startUp : (s.decideBrake).startUp = s.startUp := rfl
@[simp] theorem State.decideBrake_ladder : (s.decideBrake).ladder = s.ladder := rfl
@[simp] theorem State.decideBrake_peerView : (s.decideBrake).peerView = s.peerView := rfl
@[simp] theorem State.decideBrake_tracker : (s.decideBrake).tracker = s.tracker := rfl
@[simp] theorem State.decideBrake_steering : (s.decideBrake).steering = s.steering := rfl
@[simp] theorem State.decideBrake_joint : (s.decideBrake).joint = s.joint := rfl
@[simp] theorem State.decideBrake_slip : (s.decideBrake).slip = s.slip := rfl
@[simp] theorem State.decideBrake_levelling : (s.decideBrake).levelling = s.levelling := rfl
@[simp] theorem State.decideBrake_interlock : (s.decideBrake).interlock = s.interlock := rfl
@[simp] theorem State.decideBrake_link : (s.decideBrake).link = s.link := rfl
@[simp] theorem State.decideBrake_faults : (s.decideBrake).faults = s.faults := rfl
@[simp] theorem State.decideBrake_service : (s.decideBrake).service = s.service := rfl

/-! ### shareBraking -/

@[simp] theorem State.shareBraking_pending : (s.shareBraking).pending = s.pending := rfl
@[simp] theorem State.shareBraking_startUp : (s.shareBraking).startUp = s.startUp := rfl
@[simp] theorem State.shareBraking_ladder : (s.shareBraking).ladder = s.ladder := rfl
@[simp] theorem State.shareBraking_peerView : (s.shareBraking).peerView = s.peerView := rfl
@[simp] theorem State.shareBraking_tracker : (s.shareBraking).tracker = s.tracker := rfl
@[simp] theorem State.shareBraking_steering : (s.shareBraking).steering = s.steering := rfl
@[simp] theorem State.shareBraking_joint : (s.shareBraking).joint = s.joint := rfl
@[simp] theorem State.shareBraking_slip : (s.shareBraking).slip = s.slip := rfl
@[simp] theorem State.shareBraking_levelling : (s.shareBraking).levelling = s.levelling := rfl
@[simp] theorem State.shareBraking_interlock : (s.shareBraking).interlock = s.interlock := rfl
@[simp] theorem State.shareBraking_link : (s.shareBraking).link = s.link := rfl
@[simp] theorem State.shareBraking_faults : (s.shareBraking).faults = s.faults := rfl
@[simp] theorem State.shareBraking_service : (s.shareBraking).service = s.service := rfl

/-! ### driveModulators -/

@[simp] theorem State.driveModulators_pending : (s.driveModulators).pending = s.pending := rfl
@[simp] theorem State.driveModulators_startUp : (s.driveModulators).startUp = s.startUp := rfl
@[simp] theorem State.driveModulators_ladder : (s.driveModulators).ladder = s.ladder := rfl
@[simp] theorem State.driveModulators_peerView : (s.driveModulators).peerView = s.peerView := rfl
@[simp] theorem State.driveModulators_tracker : (s.driveModulators).tracker = s.tracker := rfl
@[simp] theorem State.driveModulators_steering : (s.driveModulators).steering = s.steering := rfl
@[simp] theorem State.driveModulators_joint : (s.driveModulators).joint = s.joint := rfl
@[simp] theorem State.driveModulators_slip : (s.driveModulators).slip = s.slip := rfl
@[simp] theorem State.driveModulators_levelling : (s.driveModulators).levelling = s.levelling := rfl
@[simp] theorem State.driveModulators_interlock : (s.driveModulators).interlock = s.interlock := rfl
@[simp] theorem State.driveModulators_link : (s.driveModulators).link = s.link := rfl
@[simp] theorem State.driveModulators_faults : (s.driveModulators).faults = s.faults := rfl
@[simp] theorem State.driveModulators_service : (s.driveModulators).service = s.service := rfl

/-! ### measureBraking -/

@[simp] theorem State.measureBraking_pending : (s.measureBraking).pending = s.pending := rfl
@[simp] theorem State.measureBraking_startUp : (s.measureBraking).startUp = s.startUp := rfl
@[simp] theorem State.measureBraking_ladder : (s.measureBraking).ladder = s.ladder := rfl
@[simp] theorem State.measureBraking_peerView : (s.measureBraking).peerView = s.peerView := rfl
@[simp] theorem State.measureBraking_tracker : (s.measureBraking).tracker = s.tracker := rfl
@[simp] theorem State.measureBraking_steering : (s.measureBraking).steering = s.steering := rfl
@[simp] theorem State.measureBraking_joint : (s.measureBraking).joint = s.joint := rfl
@[simp] theorem State.measureBraking_slip : (s.measureBraking).slip = s.slip := rfl
@[simp] theorem State.measureBraking_levelling : (s.measureBraking).levelling = s.levelling := rfl
@[simp] theorem State.measureBraking_interlock : (s.measureBraking).interlock = s.interlock := rfl
@[simp] theorem State.measureBraking_link : (s.measureBraking).link = s.link := rfl
@[simp] theorem State.measureBraking_faults : (s.measureBraking).faults = s.faults := rfl
@[simp] theorem State.measureBraking_service : (s.measureBraking).service = s.service := rfl

/-! ### steerStage3 -/

@[simp] theorem State.steerStage3_pending : (s.steerStage3).pending = s.pending := rfl
@[simp] theorem State.steerStage3_startUp : (s.steerStage3).startUp = s.startUp := rfl
@[simp] theorem State.steerStage3_ladder : (s.steerStage3).ladder = s.ladder := rfl
@[simp] theorem State.steerStage3_peerView : (s.steerStage3).peerView = s.peerView := rfl
@[simp] theorem State.steerStage3_tracker : (s.steerStage3).tracker = s.tracker := rfl
@[simp] theorem State.steerStage3_joint : (s.steerStage3).joint = s.joint := rfl
@[simp] theorem State.steerStage3_brake : (s.steerStage3).brake = s.brake := rfl
@[simp] theorem State.steerStage3_slip : (s.steerStage3).slip = s.slip := rfl
@[simp] theorem State.steerStage3_levelling : (s.steerStage3).levelling = s.levelling := rfl
@[simp] theorem State.steerStage3_interlock : (s.steerStage3).interlock = s.interlock := rfl
@[simp] theorem State.steerStage3_link : (s.steerStage3).link = s.link := rfl
@[simp] theorem State.steerStage3_faults : (s.steerStage3).faults = s.faults := rfl
@[simp] theorem State.steerStage3_service : (s.steerStage3).service = s.service := rfl

/-! ### steerStage4 -/

@[simp] theorem State.steerStage4_pending : (s.steerStage4).pending = s.pending := rfl
@[simp] theorem State.steerStage4_startUp : (s.steerStage4).startUp = s.startUp := rfl
@[simp] theorem State.steerStage4_ladder : (s.steerStage4).ladder = s.ladder := rfl
@[simp] theorem State.steerStage4_peerView : (s.steerStage4).peerView = s.peerView := rfl
@[simp] theorem State.steerStage4_tracker : (s.steerStage4).tracker = s.tracker := rfl
@[simp] theorem State.steerStage4_joint : (s.steerStage4).joint = s.joint := rfl
@[simp] theorem State.steerStage4_brake : (s.steerStage4).brake = s.brake := rfl
@[simp] theorem State.steerStage4_slip : (s.steerStage4).slip = s.slip := rfl
@[simp] theorem State.steerStage4_levelling : (s.steerStage4).levelling = s.levelling := rfl
@[simp] theorem State.steerStage4_interlock : (s.steerStage4).interlock = s.interlock := rfl
@[simp] theorem State.steerStage4_link : (s.steerStage4).link = s.link := rfl
@[simp] theorem State.steerStage4_faults : (s.steerStage4).faults = s.faults := rfl
@[simp] theorem State.steerStage4_service : (s.steerStage4).service = s.service := rfl

/-! ### steerOutputs -/

@[simp] theorem State.steerOutputs_pending : (s.steerOutputs).pending = s.pending := rfl
@[simp] theorem State.steerOutputs_startUp : (s.steerOutputs).startUp = s.startUp := rfl
@[simp] theorem State.steerOutputs_ladder : (s.steerOutputs).ladder = s.ladder := rfl
@[simp] theorem State.steerOutputs_peerView : (s.steerOutputs).peerView = s.peerView := rfl
@[simp] theorem State.steerOutputs_tracker : (s.steerOutputs).tracker = s.tracker := rfl
@[simp] theorem State.steerOutputs_joint : (s.steerOutputs).joint = s.joint := rfl
@[simp] theorem State.steerOutputs_brake : (s.steerOutputs).brake = s.brake := rfl
@[simp] theorem State.steerOutputs_slip : (s.steerOutputs).slip = s.slip := rfl
@[simp] theorem State.steerOutputs_levelling : (s.steerOutputs).levelling = s.levelling := rfl
@[simp] theorem State.steerOutputs_interlock : (s.steerOutputs).interlock = s.interlock := rfl
@[simp] theorem State.steerOutputs_link : (s.steerOutputs).link = s.link := rfl
@[simp] theorem State.steerOutputs_faults : (s.steerOutputs).faults = s.faults := rfl
@[simp] theorem State.steerOutputs_service : (s.steerOutputs).service = s.service := rfl

/-! ### clearJackknife -/

@[simp] theorem State.clearJackknife_pending : (s.clearJackknife).pending = s.pending := rfl
@[simp] theorem State.clearJackknife_startUp : (s.clearJackknife).startUp = s.startUp := rfl
@[simp] theorem State.clearJackknife_ladder : (s.clearJackknife).ladder = s.ladder := rfl
@[simp] theorem State.clearJackknife_peerView : (s.clearJackknife).peerView = s.peerView := rfl
@[simp] theorem State.clearJackknife_tracker : (s.clearJackknife).tracker = s.tracker := rfl
@[simp] theorem State.clearJackknife_steering : (s.clearJackknife).steering = s.steering := rfl
@[simp] theorem State.clearJackknife_brake : (s.clearJackknife).brake = s.brake := rfl
@[simp] theorem State.clearJackknife_slip : (s.clearJackknife).slip = s.slip := rfl
@[simp] theorem State.clearJackknife_levelling : (s.clearJackknife).levelling = s.levelling := rfl
@[simp] theorem State.clearJackknife_interlock : (s.clearJackknife).interlock = s.interlock := rfl
@[simp] theorem State.clearJackknife_link : (s.clearJackknife).link = s.link := rfl
@[simp] theorem State.clearJackknife_faults : (s.clearJackknife).faults = s.faults := rfl
@[simp] theorem State.clearJackknife_service : (s.clearJackknife).service = s.service := rfl

/-! ### beginCoil -/

@[simp] theorem State.beginCoil_pending (i : Nat) : (s.beginCoil i).pending = s.pending := rfl
@[simp] theorem State.beginCoil_ladder (i : Nat) : (s.beginCoil i).ladder = s.ladder := rfl
@[simp] theorem State.beginCoil_peerView (i : Nat) : (s.beginCoil i).peerView = s.peerView := rfl
@[simp] theorem State.beginCoil_tracker (i : Nat) : (s.beginCoil i).tracker = s.tracker := rfl
@[simp] theorem State.beginCoil_steering (i : Nat) : (s.beginCoil i).steering = s.steering := rfl
@[simp] theorem State.beginCoil_joint (i : Nat) : (s.beginCoil i).joint = s.joint := rfl
@[simp] theorem State.beginCoil_brake (i : Nat) : (s.beginCoil i).brake = s.brake := rfl
@[simp] theorem State.beginCoil_slip (i : Nat) : (s.beginCoil i).slip = s.slip := rfl
@[simp] theorem State.beginCoil_levelling (i : Nat) : (s.beginCoil i).levelling = s.levelling := rfl
@[simp] theorem State.beginCoil_interlock (i : Nat) : (s.beginCoil i).interlock = s.interlock := rfl
@[simp] theorem State.beginCoil_link (i : Nat) : (s.beginCoil i).link = s.link := rfl
@[simp] theorem State.beginCoil_faults (i : Nat) : (s.beginCoil i).faults = s.faults := rfl
@[simp] theorem State.beginCoil_service (i : Nat) : (s.beginCoil i).service = s.service := rfl

/-! ### handOver -/

@[simp] theorem State.handOver_pending : (s.handOver).pending = s.pending := rfl
@[simp] theorem State.handOver_startUp : (s.handOver).startUp = s.startUp := rfl
@[simp] theorem State.handOver_ladder : (s.handOver).ladder = s.ladder := rfl
@[simp] theorem State.handOver_peerView : (s.handOver).peerView = s.peerView := rfl
@[simp] theorem State.handOver_tracker : (s.handOver).tracker = s.tracker := rfl
@[simp] theorem State.handOver_joint : (s.handOver).joint = s.joint := rfl
@[simp] theorem State.handOver_slip : (s.handOver).slip = s.slip := rfl
@[simp] theorem State.handOver_interlock : (s.handOver).interlock = s.interlock := rfl
@[simp] theorem State.handOver_link : (s.handOver).link = s.link := rfl
@[simp] theorem State.handOver_faults : (s.handOver).faults = s.faults := rfl
@[simp] theorem State.handOver_service : (s.handOver).service = s.service := rfl

/-! ### noteValve -/

@[simp] theorem State.noteValve_pending : (s.noteValve side).pending = s.pending := rfl
@[simp] theorem State.noteValve_startUp : (s.noteValve side).startUp = s.startUp := rfl
@[simp] theorem State.noteValve_ladder : (s.noteValve side).ladder = s.ladder := rfl
@[simp] theorem State.noteValve_peerView : (s.noteValve side).peerView = s.peerView := rfl
@[simp] theorem State.noteValve_tracker : (s.noteValve side).tracker = s.tracker := rfl
@[simp] theorem State.noteValve_steering : (s.noteValve side).steering = s.steering := rfl
@[simp] theorem State.noteValve_joint : (s.noteValve side).joint = s.joint := rfl
@[simp] theorem State.noteValve_brake : (s.noteValve side).brake = s.brake := rfl
@[simp] theorem State.noteValve_slip : (s.noteValve side).slip = s.slip := rfl
@[simp] theorem State.noteValve_interlock : (s.noteValve side).interlock = s.interlock := rfl
@[simp] theorem State.noteValve_link : (s.noteValve side).link = s.link := rfl
@[simp] theorem State.noteValve_faults : (s.noteValve side).faults = s.faults := rfl
@[simp] theorem State.noteValve_service : (s.noteValve side).service = s.service := rfl

/-! ### noteValves -/

@[simp] theorem State.noteValves_pending : (s.noteValves).pending = s.pending := rfl
@[simp] theorem State.noteValves_startUp : (s.noteValves).startUp = s.startUp := rfl
@[simp] theorem State.noteValves_ladder : (s.noteValves).ladder = s.ladder := rfl
@[simp] theorem State.noteValves_peerView : (s.noteValves).peerView = s.peerView := rfl
@[simp] theorem State.noteValves_tracker : (s.noteValves).tracker = s.tracker := rfl
@[simp] theorem State.noteValves_steering : (s.noteValves).steering = s.steering := rfl
@[simp] theorem State.noteValves_joint : (s.noteValves).joint = s.joint := rfl
@[simp] theorem State.noteValves_brake : (s.noteValves).brake = s.brake := rfl
@[simp] theorem State.noteValves_slip : (s.noteValves).slip = s.slip := rfl
@[simp] theorem State.noteValves_interlock : (s.noteValves).interlock = s.interlock := rfl
@[simp] theorem State.noteValves_link : (s.noteValves).link = s.link := rfl
@[simp] theorem State.noteValves_faults : (s.noteValves).faults = s.faults := rfl
@[simp] theorem State.noteValves_service : (s.noteValves).service = s.service := rfl

/-! ### readStraps -/

@[simp] theorem State.readStraps_pending : (s.readStraps).pending = s.pending := rfl
@[simp] theorem State.readStraps_ladder : (s.readStraps).ladder = s.ladder := rfl
@[simp] theorem State.readStraps_peerView : (s.readStraps).peerView = s.peerView := rfl
@[simp] theorem State.readStraps_tracker : (s.readStraps).tracker = s.tracker := rfl
@[simp] theorem State.readStraps_steering : (s.readStraps).steering = s.steering := rfl
@[simp] theorem State.readStraps_joint : (s.readStraps).joint = s.joint := rfl
@[simp] theorem State.readStraps_brake : (s.readStraps).brake = s.brake := rfl
@[simp] theorem State.readStraps_slip : (s.readStraps).slip = s.slip := rfl
@[simp] theorem State.readStraps_levelling : (s.readStraps).levelling = s.levelling := rfl
@[simp] theorem State.readStraps_interlock : (s.readStraps).interlock = s.interlock := rfl
@[simp] theorem State.readStraps_link : (s.readStraps).link = s.link := rfl
@[simp] theorem State.readStraps_faults : (s.readStraps).faults = s.faults := rfl
@[simp] theorem State.readStraps_service : (s.readStraps).service = s.service := rfl

/-! ### blocksStart -/

@[simp] theorem State.blocksStart_pending : (s.blocksStart).pending = s.pending := rfl
@[simp] theorem State.blocksStart_startUp : (s.blocksStart).startUp = s.startUp := rfl
@[simp] theorem State.blocksStart_ladder : (s.blocksStart).ladder = s.ladder := rfl
@[simp] theorem State.blocksStart_peerView : (s.blocksStart).peerView = s.peerView := rfl
@[simp] theorem State.blocksStart_tracker : (s.blocksStart).tracker = s.tracker := rfl
@[simp] theorem State.blocksStart_steering : (s.blocksStart).steering = s.steering := rfl
@[simp] theorem State.blocksStart_joint : (s.blocksStart).joint = s.joint := rfl
@[simp] theorem State.blocksStart_brake : (s.blocksStart).brake = s.brake := rfl
@[simp] theorem State.blocksStart_slip : (s.blocksStart).slip = s.slip := rfl
@[simp] theorem State.blocksStart_link : (s.blocksStart).link = s.link := rfl
@[simp] theorem State.blocksStart_faults : (s.blocksStart).faults = s.faults := rfl
@[simp] theorem State.blocksStart_service : (s.blocksStart).service = s.service := rfl

/-! ### acknowledge -/

@[simp] theorem State.acknowledge_pending : (s.acknowledge).pending = s.pending := rfl
@[simp] theorem State.acknowledge_startUp : (s.acknowledge).startUp = s.startUp := rfl
@[simp] theorem State.acknowledge_ladder : (s.acknowledge).ladder = s.ladder := rfl
@[simp] theorem State.acknowledge_peerView : (s.acknowledge).peerView = s.peerView := rfl
@[simp] theorem State.acknowledge_tracker : (s.acknowledge).tracker = s.tracker := rfl
@[simp] theorem State.acknowledge_steering : (s.acknowledge).steering = s.steering := rfl
@[simp] theorem State.acknowledge_joint : (s.acknowledge).joint = s.joint := rfl
@[simp] theorem State.acknowledge_brake : (s.acknowledge).brake = s.brake := rfl
@[simp] theorem State.acknowledge_slip : (s.acknowledge).slip = s.slip := rfl
@[simp] theorem State.acknowledge_levelling : (s.acknowledge).levelling = s.levelling := rfl
@[simp] theorem State.acknowledge_interlock : (s.acknowledge).interlock = s.interlock := rfl
@[simp] theorem State.acknowledge_faults : (s.acknowledge).faults = s.faults := rfl
@[simp] theorem State.acknowledge_service : (s.acknowledge).service = s.service := rfl

/-! ### What an update writes -/

@[simp] theorem State.raise_faults (c : FaultCode) (q : Nat) : (s.raise c q).faults = s.faults.raise c q := rfl
@[simp] theorem State.finish_faults (c : FaultCode) (q : Nat) : (s.finish c q).faults = s.faults.finish c q := rfl
@[simp] theorem State.putPeer_peers (n : Fin 8) (p : Peer) :
    (s.putPeer n p).peerView.peers = s.peerView.peers.set n p := rfl
@[simp] theorem State.putWheel_wheels (side : Side) (w : Wheel) :
    (s.putWheel side w).slip.wheels = putSide s.slip.wheels w side := rfl
@[simp] theorem State.putCorner_corners (side : Side) (c : Corner) :
    (s.putCorner side c).levelling.corners = putSide s.levelling.corners c side := rfl
@[simp] theorem State.putEntrance_records (slot : Slot) (e : Entrance) :
    (s.putEntrance slot e).interlock.records = putSlot s.interlock.records (some e) slot := rfl
@[simp] theorem atSide_putSide {α : Type} (p : Sides α) (a : α) (side : Side) : atSide (putSide p a side) side = a := by
  cases side <;> rfl
@[simp] theorem atSide_putSide_other {α : Type} (p : Sides α) (a : α) (side : Side) :
    atSide (putSide p a side) (otherSide side) = atSide p (otherSide side) := by cases side <;> rfl
@[simp] theorem atSlot_putSlot {α : Type} (p : Slots α) (a : α) (slot : Slot) : atSlot (putSlot p a slot) slot = a := by
  cases slot <;> rfl

end Sys2Proof.Machine
end

