-- ==== Sys2Proof/Laws/Frames.lean ====
section
/-! SUPPORT. What the operations leave: one lemma per field that an operation does not touch. -/

namespace Sys2Proof.Machine

variable (s : State)

@[simp] theorem State.sensorFault_frame (e : SensorEvent) (c : FaultCode) (q : Nat) :
    (s.sensorFault e c q).pending = s.pending ∧ (s.sensorFault e c q).startUp = s.startUp ∧
    (s.sensorFault e c q).ladder = s.ladder ∧ (s.sensorFault e c q).peerView = s.peerView ∧
    (s.sensorFault e c q).tracker = s.tracker ∧ (s.sensorFault e c q).steering = s.steering ∧
    (s.sensorFault e c q).joint = s.joint ∧ (s.sensorFault e c q).brake = s.brake ∧
    (s.sensorFault e c q).slip = s.slip ∧ (s.sensorFault e c q).levelling = s.levelling ∧
    (s.sensorFault e c q).interlock = s.interlock ∧ (s.sensorFault e c q).link = s.link ∧
    (s.sensorFault e c q).service = s.service := by
  unfold State.sensorFault; (repeat' split) <;> simp

@[simp] theorem State.offerReply_frame (r : Reply) :
    (s.offerReply r).pending = s.pending ∧ (s.offerReply r).startUp = s.startUp ∧
    (s.offerReply r).ladder = s.ladder ∧ (s.offerReply r).peerView = s.peerView ∧
    (s.offerReply r).tracker = s.tracker ∧ (s.offerReply r).steering = s.steering ∧
    (s.offerReply r).joint = s.joint ∧ (s.offerReply r).brake = s.brake ∧ (s.offerReply r).slip = s.slip ∧
    (s.offerReply r).levelling = s.levelling ∧ (s.offerReply r).interlock = s.interlock ∧
    (s.offerReply r).faults = s.faults := by
  unfold State.offerReply; (repeat' split) <;> simp

@[simp] theorem State.replyLeft_frame :
    (s.replyLeft).pending = s.pending ∧ (s.replyLeft).startUp = s.startUp ∧ (s.replyLeft).ladder = s.ladder ∧
    (s.replyLeft).peerView = s.peerView ∧ (s.replyLeft).tracker = s.tracker ∧
    (s.replyLeft).steering = s.steering ∧ (s.replyLeft).joint = s.joint ∧ (s.replyLeft).brake = s.brake ∧
    (s.replyLeft).slip = s.slip ∧ (s.replyLeft).levelling = s.levelling ∧ (s.replyLeft).interlock = s.interlock ∧
    (s.replyLeft).faults = s.faults := by
  unfold State.replyLeft; (repeat' split) <;> simp

@[simp] theorem State.offer_frame (e : Entry) :
    (s.offer e).pending = s.pending ∧ (s.offer e).startUp = s.startUp ∧ (s.offer e).ladder = s.ladder ∧
    (s.offer e).peerView = s.peerView ∧ (s.offer e).tracker = s.tracker ∧ (s.offer e).steering = s.steering ∧
    (s.offer e).joint = s.joint ∧ (s.offer e).brake = s.brake ∧ (s.offer e).slip = s.slip ∧
    (s.offer e).levelling = s.levelling ∧ (s.offer e).interlock = s.interlock ∧
    (s.offer e).faults = s.faults := by
  unfold State.offer; (repeat' split) <;> simp

@[simp] theorem State.offerAlert_frame (c : AlertCode) (q : Nat) :
    (s.offerAlert c q).pending = s.pending ∧ (s.offerAlert c q).startUp = s.startUp ∧
    (s.offerAlert c q).ladder = s.ladder ∧ (s.offerAlert c q).peerView = s.peerView ∧
    (s.offerAlert c q).tracker = s.tracker ∧ (s.offerAlert c q).steering = s.steering ∧
    (s.offerAlert c q).joint = s.joint ∧ (s.offerAlert c q).brake = s.brake ∧ (s.offerAlert c q).slip = s.slip ∧
    (s.offerAlert c q).levelling = s.levelling ∧ (s.offerAlert c q).interlock = s.interlock ∧
    (s.offerAlert c q).faults = s.faults := by
  unfold State.offerAlert; simp

@[simp] theorem State.offerState_frame :
    (s.offerState).pending = s.pending ∧ (s.offerState).startUp = s.startUp ∧ (s.offerState).ladder = s.ladder ∧
    (s.offerState).peerView = s.peerView ∧ (s.offerState).tracker = s.tracker ∧
    (s.offerState).steering = s.steering ∧ (s.offerState).joint = s.joint ∧ (s.offerState).brake = s.brake ∧
    (s.offerState).slip = s.slip ∧ (s.offerState).levelling = s.levelling ∧
    (s.offerState).interlock = s.interlock ∧ (s.offerState).faults = s.faults := by
  unfold State.offerState; simp

@[simp] theorem State.silence_frame :
    (s.silence).pending = s.pending ∧ (s.silence).startUp = s.startUp ∧ (s.silence).ladder = s.ladder ∧
    (s.silence).peerView = s.peerView ∧ (s.silence).tracker = s.tracker ∧ (s.silence).steering = s.steering ∧
    (s.silence).joint = s.joint ∧ (s.silence).brake = s.brake ∧ (s.silence).slip = s.slip ∧
    (s.silence).levelling = s.levelling ∧ (s.silence).interlock = s.interlock ∧
    (s.silence).faults = s.faults := by
  unfold State.silence; (repeat' split) <;> simp

@[simp] theorem State.tellReply_frame (b : Bool) :
    (s.tellReply b).pending = s.pending ∧ (s.tellReply b).startUp = s.startUp ∧
    (s.tellReply b).ladder = s.ladder ∧ (s.tellReply b).peerView = s.peerView ∧
    (s.tellReply b).tracker = s.tracker ∧ (s.tellReply b).steering = s.steering ∧
    (s.tellReply b).joint = s.joint ∧ (s.tellReply b).brake = s.brake ∧ (s.tellReply b).slip = s.slip ∧
    (s.tellReply b).levelling = s.levelling ∧ (s.tellReply b).interlock = s.interlock ∧
    (s.tellReply b).faults = s.faults := by
  unfold State.tellReply; (repeat' split) <;> simp

@[simp] theorem State.answer_frame (n : Fin 8) (c : Nat) (r : Result) (d : List Byte) :
    (s.answer n c r d).pending = s.pending ∧ (s.answer n c r d).startUp = s.startUp ∧
    (s.answer n c r d).ladder = s.ladder ∧ (s.answer n c r d).peerView = s.peerView ∧
    (s.answer n c r d).tracker = s.tracker ∧ (s.answer n c r d).steering = s.steering ∧
    (s.answer n c r d).joint = s.joint ∧ (s.answer n c r d).brake = s.brake ∧ (s.answer n c r d).slip = s.slip ∧
    (s.answer n c r d).levelling = s.levelling ∧ (s.answer n c r d).interlock = s.interlock ∧
    (s.answer n c r d).faults = s.faults := by
  unfold State.answer; simp

@[simp] theorem State.giveSweepReply_frame :
    (s.giveSweepReply).pending = s.pending ∧ (s.giveSweepReply).startUp = s.startUp ∧
    (s.giveSweepReply).ladder = s.ladder ∧ (s.giveSweepReply).peerView = s.peerView ∧
    (s.giveSweepReply).tracker = s.tracker ∧ (s.giveSweepReply).steering = s.steering ∧
    (s.giveSweepReply).joint = s.joint ∧ (s.giveSweepReply).brake = s.brake ∧ (s.giveSweepReply).slip = s.slip ∧
    (s.giveSweepReply).levelling = s.levelling ∧ (s.giveSweepReply).interlock = s.interlock ∧
    (s.giveSweepReply).faults = s.faults := by
  unfold State.giveSweepReply; (repeat' split) <;> simp

@[simp] theorem State.endSweep_frame (h : SweepState) :
    (s.endSweep h).pending = s.pending ∧ (s.endSweep h).ladder = s.ladder ∧
    (s.endSweep h).peerView = s.peerView ∧ (s.endSweep h).tracker = s.tracker ∧
    (s.endSweep h).steering = s.steering ∧ (s.endSweep h).joint = s.joint ∧ (s.endSweep h).brake = s.brake ∧
    (s.endSweep h).slip = s.slip ∧ (s.endSweep h).levelling = s.levelling ∧
    (s.endSweep h).interlock = s.interlock ∧ (s.endSweep h).faults = s.faults := by
  unfold State.endSweep; simp

@[simp] theorem State.checkSweep_frame :
    (s.checkSweep).pending = s.pending ∧ (s.checkSweep).ladder = s.ladder ∧
    (s.checkSweep).peerView = s.peerView ∧ (s.checkSweep).tracker = s.tracker ∧
    (s.checkSweep).steering = s.steering ∧ (s.checkSweep).joint = s.joint ∧ (s.checkSweep).brake = s.brake ∧
    (s.checkSweep).slip = s.slip ∧ (s.checkSweep).levelling = s.levelling ∧
    (s.checkSweep).interlock = s.interlock ∧ (s.checkSweep).faults = s.faults := by
  unfold State.checkSweep; (repeat' split) <;> simp

@[simp] theorem State.sweepFrom_frame (i : Nat) :
    (s.sweepFrom i).pending = s.pending ∧ (s.sweepFrom i).ladder = s.ladder ∧
    (s.sweepFrom i).peerView = s.peerView ∧ (s.sweepFrom i).tracker = s.tracker ∧
    (s.sweepFrom i).steering = s.steering ∧ (s.sweepFrom i).joint = s.joint ∧ (s.sweepFrom i).brake = s.brake ∧
    (s.sweepFrom i).slip = s.slip ∧ (s.sweepFrom i).levelling = s.levelling ∧
    (s.sweepFrom i).interlock = s.interlock ∧ (s.sweepFrom i).faults = s.faults := by
  unfold State.sweepFrom; (repeat' split) <;> simp

@[simp] theorem State.firstState_frame :
    (s.firstState).pending = s.pending ∧ (s.firstState).startUp = s.startUp ∧ (s.firstState).ladder = s.ladder ∧
    (s.firstState).peerView = s.peerView ∧ (s.firstState).tracker = s.tracker ∧
    (s.firstState).steering = s.steering ∧ (s.firstState).joint = s.joint ∧ (s.firstState).brake = s.brake ∧
    (s.firstState).slip = s.slip ∧ (s.firstState).levelling = s.levelling ∧
    (s.firstState).interlock = s.interlock ∧ (s.firstState).faults = s.faults := by
  unfold State.firstState; simp

@[simp] theorem State.setJackknife_frame :
    (s.setJackknife).pending = s.pending ∧ (s.setJackknife).startUp = s.startUp ∧
    (s.setJackknife).ladder = s.ladder ∧ (s.setJackknife).peerView = s.peerView ∧
    (s.setJackknife).tracker = s.tracker ∧ (s.setJackknife).steering = s.steering ∧
    (s.setJackknife).brake = s.brake ∧ (s.setJackknife).slip = s.slip ∧
    (s.setJackknife).levelling = s.levelling ∧ (s.setJackknife).interlock = s.interlock ∧
    (s.setJackknife).faults = s.faults := by
  unfold State.setJackknife; simp

@[simp] theorem State.countMismatch_frame (m : Nat) :
    (s.countMismatch m).pending = s.pending ∧ (s.countMismatch m).startUp = s.startUp ∧
    (s.countMismatch m).ladder = s.ladder ∧ (s.countMismatch m).peerView = s.peerView ∧
    (s.countMismatch m).tracker = s.tracker ∧ (s.countMismatch m).steering = s.steering ∧
    (s.countMismatch m).brake = s.brake ∧ (s.countMismatch m).slip = s.slip ∧
    (s.countMismatch m).levelling = s.levelling ∧ (s.countMismatch m).interlock = s.interlock ∧
    (s.countMismatch m).faults = s.faults := by
  unfold State.countMismatch; (repeat' split) <;> simp

@[simp] theorem State.countClear_frame (m : Nat) :
    (s.countClear m).pending = s.pending ∧ (s.countClear m).startUp = s.startUp ∧
    (s.countClear m).ladder = s.ladder ∧ (s.countClear m).peerView = s.peerView ∧
    (s.countClear m).tracker = s.tracker ∧ (s.countClear m).steering = s.steering ∧
    (s.countClear m).brake = s.brake ∧ (s.countClear m).slip = s.slip ∧
    (s.countClear m).levelling = s.levelling ∧ (s.countClear m).interlock = s.interlock ∧
    (s.countClear m).link = s.link ∧ (s.countClear m).faults = s.faults ∧
    (s.countClear m).service = s.service := by
  unfold State.countClear; (repeat' split) <;> simp

@[simp] theorem State.compareJoint_frame (m : Nat) :
    (s.compareJoint m).pending = s.pending ∧ (s.compareJoint m).startUp = s.startUp ∧
    (s.compareJoint m).ladder = s.ladder ∧ (s.compareJoint m).peerView = s.peerView ∧
    (s.compareJoint m).tracker = s.tracker ∧ (s.compareJoint m).steering = s.steering ∧
    (s.compareJoint m).brake = s.brake ∧ (s.compareJoint m).slip = s.slip ∧
    (s.compareJoint m).levelling = s.levelling ∧ (s.compareJoint m).interlock = s.interlock ∧
    (s.compareJoint m).faults = s.faults := by
  unfold State.compareJoint; (repeat' split) <;> simp

@[simp] theorem State.jointArrival_frame :
    (s.jointArrival).pending = s.pending ∧ (s.jointArrival).startUp = s.startUp ∧
    (s.jointArrival).ladder = s.ladder ∧ (s.jointArrival).peerView = s.peerView ∧
    (s.jointArrival).tracker = s.tracker ∧ (s.jointArrival).steering = s.steering ∧
    (s.jointArrival).brake = s.brake ∧ (s.jointArrival).slip = s.slip ∧
    (s.jointArrival).levelling = s.levelling ∧ (s.jointArrival).interlock = s.interlock ∧
    (s.jointArrival).faults = s.faults := by
  unfold State.jointArrival; (repeat' split) <;> simp

@[simp] theorem State.jointCleared_frame :
    (s.jointCleared).pending = s.pending ∧ (s.jointCleared).startUp = s.startUp ∧
    (s.jointCleared).ladder = s.ladder ∧ (s.jointCleared).peerView = s.peerView ∧
    (s.jointCleared).tracker = s.tracker ∧ (s.jointCleared).steering = s.steering ∧
    (s.jointCleared).brake = s.brake ∧ (s.jointCleared).slip = s.slip ∧
    (s.jointCleared).levelling = s.levelling ∧ (s.jointCleared).interlock = s.interlock ∧
    (s.jointCleared).link = s.link ∧ (s.jointCleared).faults = s.faults ∧
    (s.jointCleared).service = s.service := by
  unfold State.jointCleared; (repeat' split) <;> simp

@[simp] theorem State.testLimit_frame (p : Int) :
    (s.testLimit p).pending = s.pending ∧ (s.testLimit p).startUp = s.startUp ∧
    (s.testLimit p).ladder = s.ladder ∧ (s.testLimit p).peerView = s.peerView ∧
    (s.testLimit p).tracker = s.tracker ∧ (s.testLimit p).steering = s.steering ∧
    (s.testLimit p).brake = s.brake ∧ (s.testLimit p).slip = s.slip ∧ (s.testLimit p).levelling = s.levelling ∧
    (s.testLimit p).interlock = s.interlock ∧ (s.testLimit p).faults = s.faults := by
  unfold State.testLimit; (repeat' split) <;> simp

@[simp] theorem State.takeJointReading_frame (v : Microvolt) :
    (s.takeJointReading v).pending = s.pending ∧ (s.takeJointReading v).startUp = s.startUp ∧
    (s.takeJointReading v).ladder = s.ladder ∧ (s.takeJointReading v).peerView = s.peerView ∧
    (s.takeJointReading v).tracker = s.tracker ∧ (s.takeJointReading v).steering = s.steering ∧
    (s.takeJointReading v).brake = s.brake ∧ (s.takeJointReading v).slip = s.slip ∧
    (s.takeJointReading v).levelling = s.levelling ∧ (s.takeJointReading v).interlock = s.interlock := by
  unfold State.takeJointReading; (repeat' split) <;> simp

@[simp] theorem State.jointPeriod_frame (v : Microvolt) :
    (s.jointPeriod v).pending = s.pending ∧ (s.jointPeriod v).startUp = s.startUp ∧
    (s.jointPeriod v).ladder = s.ladder ∧ (s.jointPeriod v).peerView = s.peerView ∧
    (s.jointPeriod v).tracker = s.tracker ∧ (s.jointPeriod v).steering = s.steering ∧
    (s.jointPeriod v).brake = s.brake ∧ (s.jointPeriod v).slip = s.slip ∧
    (s.jointPeriod v).levelling = s.levelling ∧ (s.jointPeriod v).interlock = s.interlock := by
  unfold State.jointPeriod; (repeat' split) <;> simp

@[simp] theorem State.enterPinned_frame (c : PinCause) :
    (s.enterPinned c).pending = s.pending ∧ (s.enterPinned c).startUp = s.startUp ∧
    (s.enterPinned c).ladder = s.ladder ∧ (s.enterPinned c).peerView = s.peerView ∧
    (s.enterPinned c).tracker = s.tracker ∧ (s.enterPinned c).joint = s.joint ∧
    (s.enterPinned c).brake = s.brake ∧ (s.enterPinned c).slip = s.slip ∧
    (s.enterPinned c).levelling = s.levelling ∧ (s.enterPinned c).interlock = s.interlock ∧
    (s.enterPinned c).faults = s.faults := by
  unfold State.enterPinned; simp

@[simp] theorem State.computeDp_frame :
    (s.computeDp).pending = s.pending ∧ (s.computeDp).startUp = s.startUp ∧ (s.computeDp).ladder = s.ladder ∧
    (s.computeDp).peerView = s.peerView ∧ (s.computeDp).tracker = s.tracker ∧ (s.computeDp).joint = s.joint ∧
    (s.computeDp).brake = s.brake ∧ (s.computeDp).slip = s.slip ∧ (s.computeDp).levelling = s.levelling ∧
    (s.computeDp).interlock = s.interlock ∧ (s.computeDp).link = s.link ∧ (s.computeDp).faults = s.faults ∧
    (s.computeDp).service = s.service := by
  unfold State.computeDp; (repeat' split) <;> simp

@[simp] theorem State.steerArrival_frame :
    (s.steerArrival).pending = s.pending ∧ (s.steerArrival).startUp = s.startUp ∧
    (s.steerArrival).ladder = s.ladder ∧ (s.steerArrival).peerView = s.peerView ∧
    (s.steerArrival).tracker = s.tracker ∧ (s.steerArrival).joint = s.joint ∧ (s.steerArrival).brake = s.brake ∧
    (s.steerArrival).slip = s.slip ∧ (s.steerArrival).levelling = s.levelling ∧
    (s.steerArrival).interlock = s.interlock ∧ (s.steerArrival).link = s.link ∧
    (s.steerArrival).faults = s.faults ∧ (s.steerArrival).service = s.service := by
  unfold State.steerArrival; (repeat' split) <;> simp

@[simp] theorem State.steerStage1_frame (v : Microvolt) :
    (s.steerStage1 v).pending = s.pending ∧ (s.steerStage1 v).startUp = s.startUp ∧
    (s.steerStage1 v).ladder = s.ladder ∧ (s.steerStage1 v).peerView = s.peerView ∧
    (s.steerStage1 v).tracker = s.tracker ∧ (s.steerStage1 v).joint = s.joint ∧
    (s.steerStage1 v).brake = s.brake ∧ (s.steerStage1 v).slip = s.slip ∧
    (s.steerStage1 v).levelling = s.levelling ∧ (s.steerStage1 v).interlock = s.interlock := by
  simp only [State.steerStage1]; (repeat' split) <;> simp

@[simp] theorem State.steerStage2_frame :
    (s.steerStage2).pending = s.pending ∧ (s.steerStage2).startUp = s.startUp ∧
    (s.steerStage2).ladder = s.ladder ∧ (s.steerStage2).peerView = s.peerView ∧
    (s.steerStage2).tracker = s.tracker ∧ (s.steerStage2).joint = s.joint ∧ (s.steerStage2).brake = s.brake ∧
    (s.steerStage2).slip = s.slip ∧ (s.steerStage2).levelling = s.levelling ∧
    (s.steerStage2).interlock = s.interlock ∧ (s.steerStage2).link = s.link ∧ (s.steerStage2).faults = s.faults ∧
    (s.steerStage2).service = s.service := by
  unfold State.steerStage2; (repeat' split) <;> simp

@[simp] theorem State.countTracking_frame :
    (s.countTracking).pending = s.pending ∧ (s.countTracking).startUp = s.startUp ∧
    (s.countTracking).ladder = s.ladder ∧ (s.countTracking).peerView = s.peerView ∧
    (s.countTracking).tracker = s.tracker ∧ (s.countTracking).joint = s.joint ∧
    (s.countTracking).brake = s.brake ∧ (s.countTracking).slip = s.slip ∧
    (s.countTracking).levelling = s.levelling ∧ (s.countTracking).interlock = s.interlock := by
  unfold State.countTracking; (repeat' split) <;> simp

@[simp] theorem State.steerStage5_frame :
    (s.steerStage5).pending = s.pending ∧ (s.steerStage5).startUp = s.startUp ∧
    (s.steerStage5).ladder = s.ladder ∧ (s.steerStage5).peerView = s.peerView ∧
    (s.steerStage5).tracker = s.tracker ∧ (s.steerStage5).joint = s.joint ∧ (s.steerStage5).brake = s.brake ∧
    (s.steerStage5).slip = s.slip ∧ (s.steerStage5).levelling = s.levelling ∧
    (s.steerStage5).interlock = s.interlock := by
  unfold State.steerStage5; (repeat' split) <;> simp

@[simp] theorem State.steeringPeriod_frame (v : Microvolt) :
    (s.steeringPeriod v).pending = s.pending ∧ (s.steeringPeriod v).startUp = s.startUp ∧
    (s.steeringPeriod v).ladder = s.ladder ∧ (s.steeringPeriod v).peerView = s.peerView ∧
    (s.steeringPeriod v).tracker = s.tracker ∧ (s.steeringPeriod v).joint = s.joint ∧
    (s.steeringPeriod v).brake = s.brake ∧ (s.steeringPeriod v).slip = s.slip ∧
    (s.steeringPeriod v).levelling = s.levelling ∧ (s.steeringPeriod v).interlock = s.interlock := by
  unfold State.steeringPeriod; (repeat' split) <;> simp

@[simp] theorem State.completeStep_frame (v : Microvolt) :
    (s.completeStep v).pending = s.pending ∧ (s.completeStep v).startUp = s.startUp ∧
    (s.completeStep v).ladder = s.ladder ∧ (s.completeStep v).peerView = s.peerView ∧
    (s.completeStep v).steering = s.steering ∧ (s.completeStep v).joint = s.joint ∧
    (s.completeStep v).brake = s.brake ∧ (s.completeStep v).slip = s.slip ∧
    (s.completeStep v).levelling = s.levelling ∧ (s.completeStep v).interlock = s.interlock := by
  unfold State.completeStep; (repeat' split) <;> simp

@[simp] theorem State.tracePulse_frame (v : Microvolt) :
    (s.tracePulse v).pending = s.pending ∧ (s.tracePulse v).startUp = s.startUp ∧
    (s.tracePulse v).ladder = s.ladder ∧ (s.tracePulse v).peerView = s.peerView ∧
    (s.tracePulse v).steering = s.steering ∧ (s.tracePulse v).joint = s.joint ∧
    (s.tracePulse v).brake = s.brake ∧ (s.tracePulse v).slip = s.slip ∧
    (s.tracePulse v).levelling = s.levelling ∧ (s.tracePulse v).interlock = s.interlock := by
  unfold State.tracePulse; (repeat' split) <;> simp

@[simp] theorem State.pathGrows_frame (q : List Sample) :
    (s.pathGrows q).pending = s.pending ∧ (s.pathGrows q).startUp = s.startUp ∧
    (s.pathGrows q).ladder = s.ladder ∧ (s.pathGrows q).peerView = s.peerView ∧ (s.pathGrows q).brake = s.brake ∧
    (s.pathGrows q).slip = s.slip ∧ (s.pathGrows q).levelling = s.levelling ∧
    (s.pathGrows q).interlock = s.interlock := by
  simp only [State.pathGrows]; (repeat' split) <;> simp

@[simp] theorem State.breakPath_frame (i : Half) (k : Int) (q : Nat) :
    (s.breakPath i k q).pending = s.pending ∧ (s.breakPath i k q).startUp = s.startUp ∧
    (s.breakPath i k q).ladder = s.ladder ∧ (s.breakPath i k q).peerView = s.peerView ∧
    (s.breakPath i k q).steering = s.steering ∧ (s.breakPath i k q).brake = s.brake ∧
    (s.breakPath i k q).slip = s.slip ∧ (s.breakPath i k q).levelling = s.levelling ∧
    (s.breakPath i k q).interlock = s.interlock ∧ (s.breakPath i k q).link = s.link ∧
    (s.breakPath i k q).service = s.service := by
  unfold State.breakPath; simp

@[simp] theorem State.olderArrival_frame (i : Half) (k : Int) :
    (s.olderArrival i k).pending = s.pending ∧ (s.olderArrival i k).startUp = s.startUp ∧
    (s.olderArrival i k).ladder = s.ladder ∧ (s.olderArrival i k).peerView = s.peerView ∧
    (s.olderArrival i k).steering = s.steering ∧ (s.olderArrival i k).brake = s.brake ∧
    (s.olderArrival i k).slip = s.slip ∧ (s.olderArrival i k).levelling = s.levelling ∧
    (s.olderArrival i k).interlock = s.interlock ∧ (s.olderArrival i k).link = s.link ∧
    (s.olderArrival i k).service = s.service := by
  unfold State.olderArrival; (repeat' split) <;> simp

@[simp] theorem State.traceArrival_frame (i : Half) (k : Int) :
    (s.traceArrival i k).pending = s.pending ∧ (s.traceArrival i k).startUp = s.startUp ∧
    (s.traceArrival i k).ladder = s.ladder ∧ (s.traceArrival i k).peerView = s.peerView ∧
    (s.traceArrival i k).brake = s.brake ∧ (s.traceArrival i k).slip = s.slip ∧
    (s.traceArrival i k).levelling = s.levelling ∧ (s.traceArrival i k).interlock = s.interlock := by
  simp only [State.traceArrival]; (repeat' split) <;> simp

@[simp] theorem State.takeTrace_frame (p : List Byte) :
    (s.takeTrace p).pending = s.pending ∧ (s.takeTrace p).startUp = s.startUp ∧
    (s.takeTrace p).ladder = s.ladder ∧ (s.takeTrace p).peerView = s.peerView ∧ (s.takeTrace p).brake = s.brake ∧
    (s.takeTrace p).slip = s.slip ∧ (s.takeTrace p).levelling = s.levelling ∧
    (s.takeTrace p).interlock = s.interlock := by
  unfold State.takeTrace; (repeat' split) <;> simp

@[simp] theorem State.clearPath_frame :
    (s.clearPath).pending = s.pending ∧ (s.clearPath).startUp = s.startUp ∧ (s.clearPath).ladder = s.ladder ∧
    (s.clearPath).peerView = s.peerView ∧ (s.clearPath).steering = s.steering ∧ (s.clearPath).brake = s.brake ∧
    (s.clearPath).slip = s.slip ∧ (s.clearPath).levelling = s.levelling ∧ (s.clearPath).interlock = s.interlock ∧
    (s.clearPath).link = s.link ∧ (s.clearPath).faults = s.faults ∧ (s.clearPath).service = s.service := by
  unfold State.clearPath; (repeat' split) <;> simp

@[simp] theorem State.trackerPeriod_frame :
    (s.trackerPeriod).pending = s.pending ∧ (s.trackerPeriod).startUp = s.startUp ∧
    (s.trackerPeriod).ladder = s.ladder ∧ (s.trackerPeriod).peerView = s.peerView ∧
    (s.trackerPeriod).steering = s.steering ∧ (s.trackerPeriod).brake = s.brake ∧
    (s.trackerPeriod).slip = s.slip ∧ (s.trackerPeriod).levelling = s.levelling ∧
    (s.trackerPeriod).interlock = s.interlock ∧ (s.trackerPeriod).link = s.link ∧
    (s.trackerPeriod).faults = s.faults ∧ (s.trackerPeriod).service = s.service := by
  unfold State.trackerPeriod; (repeat' split) <;> simp

@[simp] theorem State.takeState_frame (n : Fin 8) (p : List Byte) :
    (s.takeState n p).pending = s.pending ∧ (s.takeState n p).startUp = s.startUp ∧
    (s.takeState n p).ladder = s.ladder ∧ (s.takeState n p).tracker = s.tracker ∧
    (s.takeState n p).steering = s.steering ∧ (s.takeState n p).joint = s.joint ∧
    (s.takeState n p).brake = s.brake ∧ (s.takeState n p).slip = s.slip ∧
    (s.takeState n p).levelling = s.levelling ∧ (s.takeState n p).interlock = s.interlock ∧
    (s.takeState n p).link = s.link ∧ (s.takeState n p).service = s.service := by
  unfold State.takeState; (repeat' split) <;> simp

@[simp] theorem State.applyReverse_frame :
    (s.applyReverse).pending = s.pending ∧ (s.applyReverse).startUp = s.startUp ∧
    (s.applyReverse).ladder = s.ladder ∧ (s.applyReverse).peerView = s.peerView ∧
    (s.applyReverse).steering = s.steering ∧ (s.applyReverse).brake = s.brake ∧ (s.applyReverse).slip = s.slip ∧
    (s.applyReverse).levelling = s.levelling ∧ (s.applyReverse).interlock = s.interlock ∧
    (s.applyReverse).link = s.link ∧ (s.applyReverse).faults = s.faults ∧
    (s.applyReverse).service = s.service := by
  unfold State.applyReverse; (repeat' split) <;> simp

@[simp] theorem State.acceptDemand_frame (v : DemandValues) :
    (s.acceptDemand v).pending = s.pending ∧ (s.acceptDemand v).steering = s.steering ∧
    (s.acceptDemand v).brake = s.brake ∧ (s.acceptDemand v).slip = s.slip ∧
    (s.acceptDemand v).levelling = s.levelling ∧ (s.acceptDemand v).interlock = s.interlock := by
  unfold State.acceptDemand; simp

@[simp] theorem State.takeDemand_frame (p : List Byte) :
    (s.takeDemand p).pending = s.pending ∧ (s.takeDemand p).steering = s.steering ∧
    (s.takeDemand p).brake = s.brake ∧ (s.takeDemand p).slip = s.slip ∧
    (s.takeDemand p).levelling = s.levelling ∧ (s.takeDemand p).interlock = s.interlock := by
  unfold State.takeDemand; (repeat' split) <;> simp

@[simp] theorem State.takeAlert_frame (n : Fin 8) (p : List Byte) :
    (s.takeAlert n p).pending = s.pending ∧ (s.takeAlert n p).startUp = s.startUp ∧
    (s.takeAlert n p).ladder = s.ladder ∧ (s.takeAlert n p).tracker = s.tracker ∧
    (s.takeAlert n p).steering = s.steering ∧ (s.takeAlert n p).joint = s.joint ∧
    (s.takeAlert n p).brake = s.brake ∧ (s.takeAlert n p).slip = s.slip ∧
    (s.takeAlert n p).levelling = s.levelling ∧ (s.takeAlert n p).interlock = s.interlock ∧
    (s.takeAlert n p).link = s.link ∧ (s.takeAlert n p).faults = s.faults ∧
    (s.takeAlert n p).service = s.service := by
  unfold State.takeAlert; (repeat' split) <;> simp

@[simp] theorem State.duplicateHeard_frame :
    (s.duplicateHeard).pending = s.pending ∧ (s.duplicateHeard).startUp = s.startUp ∧
    (s.duplicateHeard).ladder = s.ladder ∧ (s.duplicateHeard).tracker = s.tracker ∧
    (s.duplicateHeard).steering = s.steering ∧ (s.duplicateHeard).joint = s.joint ∧
    (s.duplicateHeard).brake = s.brake ∧ (s.duplicateHeard).slip = s.slip ∧
    (s.duplicateHeard).levelling = s.levelling ∧ (s.duplicateHeard).interlock = s.interlock := by
  unfold State.duplicateHeard; simp

@[simp] theorem State.takeEdge_frame :
    (s.takeEdge).pending = s.pending ∧ (s.takeEdge).startUp = s.startUp ∧ (s.takeEdge).peerView = s.peerView ∧
    (s.takeEdge).tracker = s.tracker ∧ (s.takeEdge).steering = s.steering ∧ (s.takeEdge).joint = s.joint ∧
    (s.takeEdge).brake = s.brake ∧ (s.takeEdge).slip = s.slip ∧ (s.takeEdge).levelling = s.levelling ∧
    (s.takeEdge).interlock = s.interlock ∧ (s.takeEdge).link = s.link ∧ (s.takeEdge).faults = s.faults ∧
    (s.takeEdge).service = s.service := by
  unfold State.takeEdge; (repeat' split) <;> simp

@[simp] theorem State.ladderPeriod_frame :
    (s.ladderPeriod).pending = s.pending ∧ (s.ladderPeriod).peerView = s.peerView ∧
    (s.ladderPeriod).tracker = s.tracker ∧ (s.ladderPeriod).steering = s.steering ∧
    (s.ladderPeriod).joint = s.joint ∧ (s.ladderPeriod).brake = s.brake ∧ (s.ladderPeriod).slip = s.slip ∧
    (s.ladderPeriod).levelling = s.levelling ∧ (s.ladderPeriod).interlock = s.interlock ∧
    (s.ladderPeriod).faults = s.faults := by
  unfold State.ladderPeriod; simp

@[simp] theorem State.readChamber_frame (side : Side) (v : Microvolt) :
    (s.readChamber side v).pending = s.pending ∧ (s.readChamber side v).startUp = s.startUp ∧
    (s.readChamber side v).ladder = s.ladder ∧ (s.readChamber side v).peerView = s.peerView ∧
    (s.readChamber side v).tracker = s.tracker ∧ (s.readChamber side v).steering = s.steering ∧
    (s.readChamber side v).joint = s.joint ∧ (s.readChamber side v).slip = s.slip ∧
    (s.readChamber side v).levelling = s.levelling ∧ (s.readChamber side v).interlock = s.interlock ∧
    (s.readChamber side v).link = s.link ∧ (s.readChamber side v).service = s.service := by
  unfold State.readChamber; (repeat' split) <;> simp

@[simp] theorem State.pedalFault_frame (a b : Bool) (q : Nat) :
    (s.pedalFault a b q).pending = s.pending ∧ (s.pedalFault a b q).startUp = s.startUp ∧
    (s.pedalFault a b q).ladder = s.ladder ∧ (s.pedalFault a b q).peerView = s.peerView ∧
    (s.pedalFault a b q).tracker = s.tracker ∧ (s.pedalFault a b q).steering = s.steering ∧
    (s.pedalFault a b q).joint = s.joint ∧ (s.pedalFault a b q).brake = s.brake ∧
    (s.pedalFault a b q).slip = s.slip ∧ (s.pedalFault a b q).levelling = s.levelling ∧
    (s.pedalFault a b q).interlock = s.interlock ∧ (s.pedalFault a b q).link = s.link ∧
    (s.pedalFault a b q).service = s.service := by
  unfold State.pedalFault; (repeat' split) <;> simp

@[simp] theorem State.readPedals_frame (p : Pedals) :
    (s.readPedals p).pending = s.pending ∧ (s.readPedals p).startUp = s.startUp ∧
    (s.readPedals p).ladder = s.ladder ∧ (s.readPedals p).peerView = s.peerView ∧
    (s.readPedals p).tracker = s.tracker ∧ (s.readPedals p).steering = s.steering ∧
    (s.readPedals p).joint = s.joint ∧ (s.readPedals p).slip = s.slip ∧
    (s.readPedals p).levelling = s.levelling ∧ (s.readPedals p).interlock = s.interlock ∧
    (s.readPedals p).link = s.link ∧ (s.readPedals p).service = s.service := by
  unfold State.readPedals; (repeat' split) <;> simp

@[simp] theorem State.brakePeriod_frame (c : Sides Microvolt) (p : Pedals) :
    (s.brakePeriod c p).pending = s.pending ∧ (s.brakePeriod c p).startUp = s.startUp ∧
    (s.brakePeriod c p).ladder = s.ladder ∧ (s.brakePeriod c p).peerView = s.peerView ∧
    (s.brakePeriod c p).tracker = s.tracker ∧ (s.brakePeriod c p).steering = s.steering ∧
    (s.brakePeriod c p).joint = s.joint ∧ (s.brakePeriod c p).slip = s.slip ∧
    (s.brakePeriod c p).levelling = s.levelling ∧ (s.brakePeriod c p).interlock = s.interlock ∧
    (s.brakePeriod c p).link = s.link ∧ (s.brakePeriod c p).service = s.service := by
  unfold State.brakePeriod; (repeat' split) <;> simp

@[simp] theorem State.countLock_frame (side : Side) :
    (s.countLock side).pending = s.pending ∧ (s.countLock side).startUp = s.startUp ∧
    (s.countLock side).ladder = s.ladder ∧ (s.countLock side).peerView = s.peerView ∧
    (s.countLock side).tracker = s.tracker ∧ (s.countLock side).steering = s.steering ∧
    (s.countLock side).joint = s.joint ∧ (s.countLock side).brake = s.brake ∧
    (s.countLock side).levelling = s.levelling ∧ (s.countLock side).interlock = s.interlock ∧
    (s.countLock side).faults = s.faults := by
  simp only [State.countLock]; (repeat' split) <;> simp

@[simp] theorem State.wheelPulse_frame (side : Side) (v : Microvolt) :
    (s.wheelPulse side v).pending = s.pending ∧ (s.wheelPulse side v).startUp = s.startUp ∧
    (s.wheelPulse side v).ladder = s.ladder ∧ (s.wheelPulse side v).peerView = s.peerView ∧
    (s.wheelPulse side v).steering = s.steering ∧ (s.wheelPulse side v).joint = s.joint ∧
    (s.wheelPulse side v).brake = s.brake ∧ (s.wheelPulse side v).levelling = s.levelling ∧
    (s.wheelPulse side v).interlock = s.interlock := by
  unfold State.wheelPulse; simp

@[simp] theorem State.slipPeriod_frame :
    (s.slipPeriod).pending = s.pending ∧ (s.slipPeriod).startUp = s.startUp ∧ (s.slipPeriod).ladder = s.ladder ∧
    (s.slipPeriod).peerView = s.peerView ∧ (s.slipPeriod).tracker = s.tracker ∧
    (s.slipPeriod).steering = s.steering ∧ (s.slipPeriod).joint = s.joint ∧ (s.slipPeriod).brake = s.brake ∧
    (s.slipPeriod).levelling = s.levelling ∧ (s.slipPeriod).interlock = s.interlock ∧
    (s.slipPeriod).faults = s.faults := by
  unfold State.slipPeriod; (repeat' split) <;> simp

@[simp] theorem State.readHeight_frame (side : Side) (v : Microvolt) :
    (s.readHeight side v).pending = s.pending ∧ (s.readHeight side v).startUp = s.startUp ∧
    (s.readHeight side v).ladder = s.ladder ∧ (s.readHeight side v).peerView = s.peerView ∧
    (s.readHeight side v).tracker = s.tracker ∧ (s.readHeight side v).steering = s.steering ∧
    (s.readHeight side v).joint = s.joint ∧ (s.readHeight side v).brake = s.brake ∧
    (s.readHeight side v).slip = s.slip ∧ (s.readHeight side v).interlock = s.interlock ∧
    (s.readHeight side v).link = s.link ∧ (s.readHeight side v).service = s.service := by
  unfold State.readHeight; (repeat' split) <;> simp

@[simp] theorem State.readBellows_frame (side : Side) (v : Microvolt) :
    (s.readBellows side v).pending = s.pending ∧ (s.readBellows side v).startUp = s.startUp ∧
    (s.readBellows side v).ladder = s.ladder ∧ (s.readBellows side v).peerView = s.peerView ∧
    (s.readBellows side v).tracker = s.tracker ∧ (s.readBellows side v).steering = s.steering ∧
    (s.readBellows side v).joint = s.joint ∧ (s.readBellows side v).brake = s.brake ∧
    (s.readBellows side v).slip = s.slip ∧ (s.readBellows side v).interlock = s.interlock ∧
    (s.readBellows side v).link = s.link ∧ (s.readBellows side v).service = s.service := by
  unfold State.readBellows; (repeat' split) <;> simp

@[simp] theorem State.readSupply_frame (v : Microvolt) :
    (s.readSupply v).pending = s.pending ∧ (s.readSupply v).startUp = s.startUp ∧
    (s.readSupply v).ladder = s.ladder ∧ (s.readSupply v).peerView = s.peerView ∧
    (s.readSupply v).tracker = s.tracker ∧ (s.readSupply v).steering = s.steering ∧
    (s.readSupply v).joint = s.joint ∧ (s.readSupply v).brake = s.brake ∧ (s.readSupply v).slip = s.slip ∧
    (s.readSupply v).interlock = s.interlock ∧ (s.readSupply v).link = s.link ∧
    (s.readSupply v).service = s.service := by
  unfold State.readSupply; (repeat' split) <;> simp

@[simp] theorem State.levelStage1_frame (r : LevelReadings) :
    (s.levelStage1 r).pending = s.pending ∧ (s.levelStage1 r).startUp = s.startUp ∧
    (s.levelStage1 r).ladder = s.ladder ∧ (s.levelStage1 r).peerView = s.peerView ∧
    (s.levelStage1 r).tracker = s.tracker ∧ (s.levelStage1 r).steering = s.steering ∧
    (s.levelStage1 r).joint = s.joint ∧ (s.levelStage1 r).brake = s.brake ∧ (s.levelStage1 r).slip = s.slip ∧
    (s.levelStage1 r).interlock = s.interlock ∧ (s.levelStage1 r).link = s.link ∧
    (s.levelStage1 r).service = s.service := by
  unfold State.levelStage1; simp

@[simp] theorem State.levelStage2_frame :
    (s.levelStage2).pending = s.pending ∧ (s.levelStage2).startUp = s.startUp ∧
    (s.levelStage2).ladder = s.ladder ∧ (s.levelStage2).peerView = s.peerView ∧
    (s.levelStage2).tracker = s.tracker ∧ (s.levelStage2).steering = s.steering ∧
    (s.levelStage2).joint = s.joint ∧ (s.levelStage2).brake = s.brake ∧ (s.levelStage2).slip = s.slip ∧
    (s.levelStage2).interlock = s.interlock ∧ (s.levelStage2).link = s.link ∧ (s.levelStage2).faults = s.faults ∧
    (s.levelStage2).service = s.service := by
  simp only [State.levelStage2]; (repeat' split) <;> simp

@[simp] theorem State.levelStage3_frame :
    (s.levelStage3).pending = s.pending ∧ (s.levelStage3).startUp = s.startUp ∧
    (s.levelStage3).ladder = s.ladder ∧ (s.levelStage3).peerView = s.peerView ∧
    (s.levelStage3).tracker = s.tracker ∧ (s.levelStage3).steering = s.steering ∧
    (s.levelStage3).joint = s.joint ∧ (s.levelStage3).brake = s.brake ∧ (s.levelStage3).slip = s.slip ∧
    (s.levelStage3).interlock = s.interlock ∧ (s.levelStage3).link = s.link ∧ (s.levelStage3).faults = s.faults ∧
    (s.levelStage3).service = s.service := by
  unfold State.levelStage3; (repeat' split) <;> simp

@[simp] theorem State.lockTest_frame (side : Side) :
    (s.lockTest side).pending = s.pending ∧ (s.lockTest side).startUp = s.startUp ∧
    (s.lockTest side).ladder = s.ladder ∧ (s.lockTest side).peerView = s.peerView ∧
    (s.lockTest side).tracker = s.tracker ∧ (s.lockTest side).steering = s.steering ∧
    (s.lockTest side).joint = s.joint ∧ (s.lockTest side).brake = s.brake ∧ (s.lockTest side).slip = s.slip ∧
    (s.lockTest side).interlock = s.interlock ∧ (s.lockTest side).link = s.link ∧
    (s.lockTest side).faults = s.faults ∧ (s.lockTest side).service = s.service := by
  simp only [State.lockTest]; (repeat' split) <;> simp

@[simp] theorem State.levelStage4_frame :
    (s.levelStage4).pending = s.pending ∧ (s.levelStage4).startUp = s.startUp ∧
    (s.levelStage4).ladder = s.ladder ∧ (s.levelStage4).peerView = s.peerView ∧
    (s.levelStage4).tracker = s.tracker ∧ (s.levelStage4).steering = s.steering ∧
    (s.levelStage4).joint = s.joint ∧ (s.levelStage4).brake = s.brake ∧ (s.levelStage4).slip = s.slip ∧
    (s.levelStage4).interlock = s.interlock ∧ (s.levelStage4).link = s.link ∧ (s.levelStage4).faults = s.faults ∧
    (s.levelStage4).service = s.service := by
  unfold State.levelStage4; simp

@[simp] theorem State.serveCorner_frame (side : Side) :
    (s.serveCorner side).pending = s.pending ∧ (s.serveCorner side).startUp = s.startUp ∧
    (s.serveCorner side).ladder = s.ladder ∧ (s.serveCorner side).peerView = s.peerView ∧
    (s.serveCorner side).tracker = s.tracker ∧ (s.serveCorner side).steering = s.steering ∧
    (s.serveCorner side).joint = s.joint ∧ (s.serveCorner side).brake = s.brake ∧
    (s.serveCorner side).slip = s.slip ∧ (s.serveCorner side).interlock = s.interlock ∧
    (s.serveCorner side).link = s.link ∧ (s.serveCorner side).faults = s.faults ∧
    (s.serveCorner side).service = s.service := by
  unfold State.serveCorner; (repeat' split) <;> simp

@[simp] theorem State.levelStage5_frame :
    (s.levelStage5).pending = s.pending ∧ (s.levelStage5).startUp = s.startUp ∧
    (s.levelStage5).ladder = s.ladder ∧ (s.levelStage5).peerView = s.peerView ∧
    (s.levelStage5).tracker = s.tracker ∧ (s.levelStage5).steering = s.steering ∧
    (s.levelStage5).joint = s.joint ∧ (s.levelStage5).brake = s.brake ∧ (s.levelStage5).slip = s.slip ∧
    (s.levelStage5).interlock = s.interlock ∧ (s.levelStage5).link = s.link ∧ (s.levelStage5).faults = s.faults ∧
    (s.levelStage5).service = s.service := by
  unfold State.levelStage5; simp

@[simp] theorem State.measureLoad_frame :
    (s.measureLoad).pending = s.pending ∧ (s.measureLoad).startUp = s.startUp ∧
    (s.measureLoad).ladder = s.ladder ∧ (s.measureLoad).peerView = s.peerView ∧
    (s.measureLoad).tracker = s.tracker ∧ (s.measureLoad).steering = s.steering ∧
    (s.measureLoad).joint = s.joint ∧ (s.measureLoad).brake = s.brake ∧ (s.measureLoad).slip = s.slip ∧
    (s.measureLoad).interlock = s.interlock ∧ (s.measureLoad).link = s.link ∧ (s.measureLoad).faults = s.faults ∧
    (s.measureLoad).service = s.service := by
  unfold State.measureLoad; (repeat' split) <;> simp

@[simp] theorem State.runRaiseTimer_frame :
    (s.runRaiseTimer).pending = s.pending ∧ (s.runRaiseTimer).startUp = s.startUp ∧
    (s.runRaiseTimer).ladder = s.ladder ∧ (s.runRaiseTimer).peerView = s.peerView ∧
    (s.runRaiseTimer).tracker = s.tracker ∧ (s.runRaiseTimer).steering = s.steering ∧
    (s.runRaiseTimer).joint = s.joint ∧ (s.runRaiseTimer).brake = s.brake ∧ (s.runRaiseTimer).slip = s.slip ∧
    (s.runRaiseTimer).interlock = s.interlock ∧ (s.runRaiseTimer).link = s.link ∧
    (s.runRaiseTimer).service = s.service := by
  simp only [State.runRaiseTimer]; (repeat' split) <;> simp

@[simp] theorem State.levellingPeriod_frame (r : LevelReadings) :
    (s.levellingPeriod r).pending = s.pending ∧ (s.levellingPeriod r).startUp = s.startUp ∧
    (s.levellingPeriod r).ladder = s.ladder ∧ (s.levellingPeriod r).peerView = s.peerView ∧
    (s.levellingPeriod r).tracker = s.tracker ∧ (s.levellingPeriod r).steering = s.steering ∧
    (s.levellingPeriod r).joint = s.joint ∧ (s.levellingPeriod r).brake = s.brake ∧
    (s.levellingPeriod r).slip = s.slip ∧ (s.levellingPeriod r).interlock = s.interlock ∧
    (s.levellingPeriod r).link = s.link ∧ (s.levellingPeriod r).service = s.service := by
  unfold State.levellingPeriod; (repeat' split) <;> simp

@[simp] theorem State.readSlot_frame (slot : Slot) (i : SlotInputs) :
    (s.readSlot slot i).pending = s.pending ∧ (s.readSlot slot i).startUp = s.startUp ∧
    (s.readSlot slot i).ladder = s.ladder ∧ (s.readSlot slot i).peerView = s.peerView ∧
    (s.readSlot slot i).tracker = s.tracker ∧ (s.readSlot slot i).steering = s.steering ∧
    (s.readSlot slot i).joint = s.joint ∧ (s.readSlot slot i).brake = s.brake ∧
    (s.readSlot slot i).slip = s.slip ∧ (s.readSlot slot i).levelling = s.levelling ∧
    (s.readSlot slot i).link = s.link ∧ (s.readSlot slot i).faults = s.faults ∧
    (s.readSlot slot i).service = s.service := by
  unfold State.readSlot; (repeat' split) <;> simp

@[simp] theorem State.entranceFault_frame (a b : Entrance) (g : Nat) :
    (s.entranceFault a b g).pending = s.pending ∧ (s.entranceFault a b g).startUp = s.startUp ∧
    (s.entranceFault a b g).ladder = s.ladder ∧ (s.entranceFault a b g).peerView = s.peerView ∧
    (s.entranceFault a b g).tracker = s.tracker ∧ (s.entranceFault a b g).steering = s.steering ∧
    (s.entranceFault a b g).joint = s.joint ∧ (s.entranceFault a b g).brake = s.brake ∧
    (s.entranceFault a b g).slip = s.slip ∧ (s.entranceFault a b g).levelling = s.levelling ∧
    (s.entranceFault a b g).interlock = s.interlock ∧ (s.entranceFault a b g).link = s.link ∧
    (s.entranceFault a b g).service = s.service := by
  unfold State.entranceFault; (repeat' split) <;> simp

@[simp] theorem State.moveEntrance_frame (slot : Slot) (a b : Entrance) :
    (s.moveEntrance slot a b).pending = s.pending ∧ (s.moveEntrance slot a b).startUp = s.startUp ∧
    (s.moveEntrance slot a b).ladder = s.ladder ∧ (s.moveEntrance slot a b).peerView = s.peerView ∧
    (s.moveEntrance slot a b).tracker = s.tracker ∧ (s.moveEntrance slot a b).steering = s.steering ∧
    (s.moveEntrance slot a b).joint = s.joint ∧ (s.moveEntrance slot a b).brake = s.brake ∧
    (s.moveEntrance slot a b).slip = s.slip ∧ (s.moveEntrance slot a b).levelling = s.levelling ∧
    (s.moveEntrance slot a b).link = s.link ∧ (s.moveEntrance slot a b).service = s.service := by
  unfold State.moveEntrance; simp

@[simp] theorem State.stepSlot_frame (slot : Slot) :
    (s.stepSlot slot).pending = s.pending ∧ (s.stepSlot slot).startUp = s.startUp ∧
    (s.stepSlot slot).ladder = s.ladder ∧ (s.stepSlot slot).peerView = s.peerView ∧
    (s.stepSlot slot).tracker = s.tracker ∧ (s.stepSlot slot).steering = s.steering ∧
    (s.stepSlot slot).joint = s.joint ∧ (s.stepSlot slot).brake = s.brake ∧ (s.stepSlot slot).slip = s.slip ∧
    (s.stepSlot slot).levelling = s.levelling ∧ (s.stepSlot slot).link = s.link ∧
    (s.stepSlot slot).service = s.service := by
  unfold State.stepSlot; (repeat' split) <;> simp

@[simp] theorem State.breachAlert_frame (slot : Slot) :
    (s.breachAlert slot).pending = s.pending ∧ (s.breachAlert slot).startUp = s.startUp ∧
    (s.breachAlert slot).ladder = s.ladder ∧ (s.breachAlert slot).peerView = s.peerView ∧
    (s.breachAlert slot).tracker = s.tracker ∧ (s.breachAlert slot).steering = s.steering ∧
    (s.breachAlert slot).joint = s.joint ∧ (s.breachAlert slot).brake = s.brake ∧
    (s.breachAlert slot).slip = s.slip ∧ (s.breachAlert slot).levelling = s.levelling ∧
    (s.breachAlert slot).faults = s.faults := by
  unfold State.breachAlert; (repeat' split) <;> simp

@[simp] theorem State.entranceReport_frame :
    (s.entranceReport).pending = s.pending ∧ (s.entranceReport).startUp = s.startUp ∧
    (s.entranceReport).ladder = s.ladder ∧ (s.entranceReport).peerView = s.peerView ∧
    (s.entranceReport).tracker = s.tracker ∧ (s.entranceReport).steering = s.steering ∧
    (s.entranceReport).joint = s.joint ∧ (s.entranceReport).brake = s.brake ∧ (s.entranceReport).slip = s.slip ∧
    (s.entranceReport).levelling = s.levelling ∧ (s.entranceReport).faults = s.faults := by
  unfold State.entranceReport; simp

@[simp] theorem State.entrancePeriod_frame (i : Slots SlotInputs) :
    (s.entrancePeriod i).pending = s.pending ∧ (s.entrancePeriod i).ladder = s.ladder ∧
    (s.entrancePeriod i).peerView = s.peerView ∧ (s.entrancePeriod i).tracker = s.tracker ∧
    (s.entrancePeriod i).steering = s.steering ∧ (s.entrancePeriod i).joint = s.joint ∧
    (s.entrancePeriod i).brake = s.brake ∧ (s.entrancePeriod i).slip = s.slip ∧
    (s.entrancePeriod i).levelling = s.levelling := by
  unfold State.entrancePeriod; (repeat' split) <;> simp

@[simp] theorem State.finishSlot_frame (slot : Slot) (a b : Entrance) :
    (s.finishSlot slot a b).pending = s.pending ∧ (s.finishSlot slot a b).ladder = s.ladder ∧
    (s.finishSlot slot a b).peerView = s.peerView ∧ (s.finishSlot slot a b).tracker = s.tracker ∧
    (s.finishSlot slot a b).steering = s.steering ∧ (s.finishSlot slot a b).joint = s.joint ∧
    (s.finishSlot slot a b).brake = s.brake ∧ (s.finishSlot slot a b).slip = s.slip ∧
    (s.finishSlot slot a b).levelling = s.levelling := by
  unfold State.finishSlot; simp

@[simp] theorem State.runDemand_frame (w : Switches) :
    (s.runDemand w).pending = s.pending ∧ (s.runDemand w).steering = s.steering ∧
    (s.runDemand w).brake = s.brake ∧ (s.runDemand w).slip = s.slip ∧
    (s.runDemand w).levelling = s.levelling := by
  unfold State.runDemand; simp

@[simp] theorem State.arbitrationLost_frame :
    (s.arbitrationLost).pending = s.pending ∧ (s.arbitrationLost).startUp = s.startUp ∧
    (s.arbitrationLost).ladder = s.ladder ∧ (s.arbitrationLost).peerView = s.peerView ∧
    (s.arbitrationLost).tracker = s.tracker ∧ (s.arbitrationLost).steering = s.steering ∧
    (s.arbitrationLost).joint = s.joint ∧ (s.arbitrationLost).brake = s.brake ∧
    (s.arbitrationLost).slip = s.slip ∧ (s.arbitrationLost).levelling = s.levelling ∧
    (s.arbitrationLost).interlock = s.interlock ∧ (s.arbitrationLost).faults = s.faults := by
  unfold State.arbitrationLost; simp

@[simp] theorem State.sendBitError_frame :
    (s.sendBitError).pending = s.pending ∧ (s.sendBitError).startUp = s.startUp ∧
    (s.sendBitError).ladder = s.ladder ∧ (s.sendBitError).peerView = s.peerView ∧
    (s.sendBitError).tracker = s.tracker ∧ (s.sendBitError).steering = s.steering ∧
    (s.sendBitError).joint = s.joint ∧ (s.sendBitError).brake = s.brake ∧ (s.sendBitError).slip = s.slip ∧
    (s.sendBitError).levelling = s.levelling ∧ (s.sendBitError).interlock = s.interlock ∧
    (s.sendBitError).faults = s.faults := by
  unfold State.sendBitError; simp

@[simp] theorem State.ackHeard_frame :
    (s.ackHeard).pending = s.pending ∧ (s.ackHeard).startUp = s.startUp ∧ (s.ackHeard).ladder = s.ladder ∧
    (s.ackHeard).peerView = s.peerView ∧ (s.ackHeard).tracker = s.tracker ∧ (s.ackHeard).steering = s.steering ∧
    (s.ackHeard).joint = s.joint ∧ (s.ackHeard).brake = s.brake ∧ (s.ackHeard).slip = s.slip ∧
    (s.ackHeard).levelling = s.levelling ∧ (s.ackHeard).interlock = s.interlock ∧
    (s.ackHeard).service = s.service := by
  unfold State.ackHeard; simp

@[simp] theorem State.ackMissed_frame :
    (s.ackMissed).pending = s.pending ∧ (s.ackMissed).startUp = s.startUp ∧ (s.ackMissed).ladder = s.ladder ∧
    (s.ackMissed).peerView = s.peerView ∧ (s.ackMissed).tracker = s.tracker ∧
    (s.ackMissed).steering = s.steering ∧ (s.ackMissed).joint = s.joint ∧ (s.ackMissed).brake = s.brake ∧
    (s.ackMissed).slip = s.slip ∧ (s.ackMissed).levelling = s.levelling ∧ (s.ackMissed).interlock = s.interlock ∧
    (s.ackMissed).service = s.service := by
  unfold State.ackMissed; (repeat' split) <;> simp

@[simp] theorem State.frameSent_frame (b : Bool) :
    (s.frameSent b).pending = s.pending ∧ (s.frameSent b).startUp = s.startUp ∧
    (s.frameSent b).ladder = s.ladder ∧ (s.frameSent b).peerView = s.peerView ∧
    (s.frameSent b).tracker = s.tracker ∧ (s.frameSent b).steering = s.steering ∧
    (s.frameSent b).joint = s.joint ∧ (s.frameSent b).brake = s.brake ∧ (s.frameSent b).slip = s.slip ∧
    (s.frameSent b).levelling = s.levelling ∧ (s.frameSent b).interlock = s.interlock := by
  unfold State.frameSent; (repeat' split) <;> simp

@[simp] theorem State.stateTimerExpires_frame :
    (s.stateTimerExpires).pending = s.pending ∧ (s.stateTimerExpires).startUp = s.startUp ∧
    (s.stateTimerExpires).ladder = s.ladder ∧ (s.stateTimerExpires).peerView = s.peerView ∧
    (s.stateTimerExpires).tracker = s.tracker ∧ (s.stateTimerExpires).steering = s.steering ∧
    (s.stateTimerExpires).joint = s.joint ∧ (s.stateTimerExpires).brake = s.brake ∧
    (s.stateTimerExpires).slip = s.slip ∧ (s.stateTimerExpires).levelling = s.levelling ∧
    (s.stateTimerExpires).interlock = s.interlock ∧ (s.stateTimerExpires).faults = s.faults := by
  unfold State.stateTimerExpires; simp

@[simp] theorem State.holdImage_frame (b : List Byte) :
    (s.holdImage b).pending = s.pending ∧ (s.holdImage b).ladder = s.ladder ∧
    (s.holdImage b).peerView = s.peerView ∧ (s.holdImage b).tracker = s.tracker ∧
    (s.holdImage b).steering = s.steering ∧ (s.holdImage b).joint = s.joint ∧ (s.holdImage b).brake = s.brake ∧
    (s.holdImage b).slip = s.slip ∧ (s.holdImage b).levelling = s.levelling ∧
    (s.holdImage b).interlock = s.interlock ∧ (s.holdImage b).link = s.link ∧
    (s.holdImage b).service = s.service := by
  unfold State.holdImage; (repeat' split) <;> simp

@[simp] theorem State.configure_frame (b : List Byte) :
    (s.configure b).pending = s.pending ∧ (s.configure b).ladder = s.ladder ∧
    (s.configure b).peerView = s.peerView ∧ (s.configure b).tracker = s.tracker ∧
    (s.configure b).steering = s.steering ∧ (s.configure b).joint = s.joint ∧ (s.configure b).brake = s.brake ∧
    (s.configure b).slip = s.slip := by
  unfold State.configure; simp

@[simp] theorem State.startSweep_frame :
    (s.startSweep).pending = s.pending ∧ (s.startSweep).ladder = s.ladder ∧
    (s.startSweep).peerView = s.peerView ∧ (s.startSweep).tracker = s.tracker ∧ (s.startSweep).joint = s.joint ∧
    (s.startSweep).slip = s.slip ∧ (s.startSweep).interlock = s.interlock ∧ (s.startSweep).faults = s.faults := by
  unfold State.startSweep; simp

@[simp] theorem State.sweepOrSkip_frame :
    (s.sweepOrSkip).pending = s.pending ∧ (s.sweepOrSkip).ladder = s.ladder ∧
    (s.sweepOrSkip).peerView = s.peerView ∧ (s.sweepOrSkip).tracker = s.tracker ∧
    (s.sweepOrSkip).joint = s.joint ∧ (s.sweepOrSkip).slip = s.slip ∧ (s.sweepOrSkip).interlock = s.interlock ∧
    (s.sweepOrSkip).faults = s.faults := by
  unfold State.sweepOrSkip; (repeat' split) <;> simp

@[simp] theorem State.recordCoil_frame (i : Nat) (r : CoilResult) :
    (s.recordCoil i r).pending = s.pending ∧ (s.recordCoil i r).ladder = s.ladder ∧
    (s.recordCoil i r).peerView = s.peerView ∧ (s.recordCoil i r).tracker = s.tracker ∧
    (s.recordCoil i r).steering = s.steering ∧ (s.recordCoil i r).joint = s.joint ∧
    (s.recordCoil i r).brake = s.brake ∧ (s.recordCoil i r).slip = s.slip ∧
    (s.recordCoil i r).levelling = s.levelling ∧ (s.recordCoil i r).interlock = s.interlock ∧
    (s.recordCoil i r).link = s.link ∧ (s.recordCoil i r).service = s.service := by
  unfold State.recordCoil; (repeat' split) <;> simp

@[simp] theorem State.sweepStep_frame (b : Bool) :
    (s.sweepStep b).pending = s.pending ∧ (s.sweepStep b).ladder = s.ladder ∧
    (s.sweepStep b).peerView = s.peerView ∧ (s.sweepStep b).tracker = s.tracker ∧
    (s.sweepStep b).steering = s.steering ∧ (s.sweepStep b).joint = s.joint ∧ (s.sweepStep b).brake = s.brake ∧
    (s.sweepStep b).slip = s.slip ∧ (s.sweepStep b).levelling = s.levelling ∧
    (s.sweepStep b).interlock = s.interlock := by
  simp only [State.sweepStep]; (repeat' split) <;> simp

@[simp] theorem State.serveSnapshot_frame (n : Fin 8) (a b c : Nat) :
    (s.serveSnapshot n a b c).pending = s.pending ∧ (s.serveSnapshot n a b c).startUp = s.startUp ∧
    (s.serveSnapshot n a b c).ladder = s.ladder ∧ (s.serveSnapshot n a b c).peerView = s.peerView ∧
    (s.serveSnapshot n a b c).tracker = s.tracker ∧ (s.serveSnapshot n a b c).steering = s.steering ∧
    (s.serveSnapshot n a b c).joint = s.joint ∧ (s.serveSnapshot n a b c).brake = s.brake ∧
    (s.serveSnapshot n a b c).slip = s.slip ∧ (s.serveSnapshot n a b c).levelling = s.levelling ∧
    (s.serveSnapshot n a b c).interlock = s.interlock ∧ (s.serveSnapshot n a b c).faults = s.faults := by
  unfold State.serveSnapshot; simp

@[simp] theorem State.serveReadFaults_frame (n : Fin 8) (a : Nat) :
    (s.serveReadFaults n a).pending = s.pending ∧ (s.serveReadFaults n a).startUp = s.startUp ∧
    (s.serveReadFaults n a).ladder = s.ladder ∧ (s.serveReadFaults n a).peerView = s.peerView ∧
    (s.serveReadFaults n a).tracker = s.tracker ∧ (s.serveReadFaults n a).steering = s.steering ∧
    (s.serveReadFaults n a).joint = s.joint ∧ (s.serveReadFaults n a).brake = s.brake ∧
    (s.serveReadFaults n a).slip = s.slip ∧ (s.serveReadFaults n a).levelling = s.levelling ∧
    (s.serveReadFaults n a).interlock = s.interlock ∧ (s.serveReadFaults n a).faults = s.faults := by
  unfold State.serveReadFaults; simp

@[simp] theorem State.serveClearFaults_frame (n : Fin 8) :
    (s.serveClearFaults n).pending = s.pending ∧ (s.serveClearFaults n).startUp = s.startUp ∧
    (s.serveClearFaults n).ladder = s.ladder ∧ (s.serveClearFaults n).peerView = s.peerView ∧
    (s.serveClearFaults n).tracker = s.tracker ∧ (s.serveClearFaults n).steering = s.steering ∧
    (s.serveClearFaults n).joint = s.joint ∧ (s.serveClearFaults n).brake = s.brake ∧
    (s.serveClearFaults n).slip = s.slip ∧ (s.serveClearFaults n).levelling = s.levelling ∧
    (s.serveClearFaults n).interlock = s.interlock := by
  unfold State.serveClearFaults; simp

@[simp] theorem State.serveCalibrate_frame (n : Fin 8) :
    (s.serveCalibrate n).pending = s.pending ∧ (s.serveCalibrate n).startUp = s.startUp ∧
    (s.serveCalibrate n).ladder = s.ladder ∧ (s.serveCalibrate n).peerView = s.peerView ∧
    (s.serveCalibrate n).tracker = s.tracker ∧ (s.serveCalibrate n).steering = s.steering ∧
    (s.serveCalibrate n).joint = s.joint ∧ (s.serveCalibrate n).brake = s.brake ∧
    (s.serveCalibrate n).slip = s.slip ∧ (s.serveCalibrate n).interlock = s.interlock ∧
    (s.serveCalibrate n).faults = s.faults := by
  unfold State.serveCalibrate; (repeat' split) <;> simp

@[simp] theorem State.serveCoilSweep_frame (n : Fin 8) :
    (s.serveCoilSweep n).pending = s.pending ∧ (s.serveCoilSweep n).ladder = s.ladder ∧
    (s.serveCoilSweep n).peerView = s.peerView ∧ (s.serveCoilSweep n).tracker = s.tracker ∧
    (s.serveCoilSweep n).joint = s.joint ∧ (s.serveCoilSweep n).slip = s.slip ∧
    (s.serveCoilSweep n).interlock = s.interlock ∧ (s.serveCoilSweep n).faults = s.faults := by
  unfold State.serveCoilSweep; (repeat' split) <;> simp

@[simp] theorem State.serveRestart_frame (n : Fin 8) :
    (s.serveRestart n).pending = s.pending ∧ (s.serveRestart n).startUp = s.startUp ∧
    (s.serveRestart n).ladder = s.ladder ∧ (s.serveRestart n).peerView = s.peerView ∧
    (s.serveRestart n).tracker = s.tracker ∧ (s.serveRestart n).steering = s.steering ∧
    (s.serveRestart n).joint = s.joint ∧ (s.serveRestart n).brake = s.brake ∧ (s.serveRestart n).slip = s.slip ∧
    (s.serveRestart n).levelling = s.levelling ∧ (s.serveRestart n).interlock = s.interlock ∧
    (s.serveRestart n).faults = s.faults := by
  unfold State.serveRestart; (repeat' split) <;> simp

@[simp] theorem State.carry_frame (n : Fin 8) (r : Request) (a : List Byte) :
    (s.carry n r a).pending = s.pending ∧ (s.carry n r a).ladder = s.ladder ∧
    (s.carry n r a).peerView = s.peerView ∧ (s.carry n r a).tracker = s.tracker ∧
    (s.carry n r a).joint = s.joint ∧ (s.carry n r a).slip = s.slip ∧
    (s.carry n r a).interlock = s.interlock := by
  unfold State.carry; (repeat' split) <;> simp

@[simp] theorem State.serve_frame (n : Fin 8) (r : Request) (a : List Byte) :
    (s.serve n r a).pending = s.pending ∧ (s.serve n r a).ladder = s.ladder ∧
    (s.serve n r a).peerView = s.peerView ∧ (s.serve n r a).tracker = s.tracker ∧
    (s.serve n r a).joint = s.joint ∧ (s.serve n r a).slip = s.slip ∧
    (s.serve n r a).interlock = s.interlock := by
  unfold State.serve; (repeat' split) <;> simp

@[simp] theorem State.serveUnknown_frame (n : Fin 8) (c : Nat) :
    (s.serveUnknown n c).pending = s.pending ∧ (s.serveUnknown n c).startUp = s.startUp ∧
    (s.serveUnknown n c).ladder = s.ladder ∧ (s.serveUnknown n c).peerView = s.peerView ∧
    (s.serveUnknown n c).tracker = s.tracker ∧ (s.serveUnknown n c).steering = s.steering ∧
    (s.serveUnknown n c).joint = s.joint ∧ (s.serveUnknown n c).brake = s.brake ∧
    (s.serveUnknown n c).slip = s.slip ∧ (s.serveUnknown n c).levelling = s.levelling ∧
    (s.serveUnknown n c).interlock = s.interlock ∧ (s.serveUnknown n c).faults = s.faults := by
  unfold State.serveUnknown; simp

@[simp] theorem State.servePayload_frame (n : Fin 8) (p : List Byte) :
    (s.servePayload n p).pending = s.pending ∧ (s.servePayload n p).ladder = s.ladder ∧
    (s.servePayload n p).peerView = s.peerView ∧ (s.servePayload n p).tracker = s.tracker ∧
    (s.servePayload n p).joint = s.joint ∧ (s.servePayload n p).slip = s.slip ∧
    (s.servePayload n p).interlock = s.interlock := by
  unfold State.servePayload; (repeat' split) <;> simp

@[simp] theorem State.takeRequest_frame (a : Address) (p : List Byte) :
    (s.takeRequest a p).pending = s.pending ∧ (s.takeRequest a p).ladder = s.ladder ∧
    (s.takeRequest a p).peerView = s.peerView ∧ (s.takeRequest a p).tracker = s.tracker ∧
    (s.takeRequest a p).joint = s.joint ∧ (s.takeRequest a p).slip = s.slip ∧
    (s.takeRequest a p).interlock = s.interlock := by
  unfold State.takeRequest; (repeat' split) <;> simp

@[simp] theorem State.routeRequest_frame (a : Address) (p : List Byte) :
    (s.routeRequest a p).pending = s.pending ∧ (s.routeRequest a p).ladder = s.ladder ∧
    (s.routeRequest a p).peerView = s.peerView ∧ (s.routeRequest a p).tracker = s.tracker ∧
    (s.routeRequest a p).joint = s.joint ∧ (s.routeRequest a p).slip = s.slip ∧
    (s.routeRequest a p).interlock = s.interlock := by
  unfold State.routeRequest; (repeat' split) <;> simp

@[simp] theorem State.route_frame (k : Kind) (a : Address) (p : List Byte) :
    (s.route k a p).pending = s.pending ∧ (s.route k a p).slip = s.slip ∧
    (s.route k a p).interlock = s.interlock := by
  unfold State.route; (repeat' split) <;> simp

@[simp] theorem State.screen_frame (k : Kind) (a : Address) (p : List Byte) :
    (s.screen k a p).pending = s.pending ∧ (s.screen k a p).slip = s.slip ∧
    (s.screen k a p).interlock = s.interlock := by
  unfold State.screen; (repeat' split) <;> simp

@[simp] theorem State.accept_frame (k : Kind) (a : Address) (p : List Byte) :
    (s.accept k a p).pending = s.pending ∧ (s.accept k a p).slip = s.slip ∧
    (s.accept k a p).interlock = s.interlock := by
  unfold State.accept; (repeat' split) <;> simp

@[simp] theorem State.receive_frame (h : RawHead) (p : List Byte) :
    (s.receive h p).pending = s.pending ∧ (s.receive h p).slip = s.slip ∧
    (s.receive h p).interlock = s.interlock := by
  unfold State.receive; (repeat' split) <;> simp

end Sys2Proof.Machine
end

