-- ==== Sys2Proof/Laws/Ops.lean ====
section
/-! SUPPORT. What the shared operations can do, each said once: the transmit queue, the fault list, the coil sweep. -/

namespace Sys2Proof.Machine

/-- Two states that agree on every block are equal. -/
theorem State.eq_of_blocks {s t : State} (h1 : s.pending = t.pending) (h2 : s.startUp = t.startUp)
    (h3 : s.ladder = t.ladder) (h4 : s.peerView = t.peerView) (h5 : s.tracker = t.tracker)
    (h6 : s.steering = t.steering) (h7 : s.joint = t.joint) (h8 : s.brake = t.brake) (h9 : s.slip = t.slip)
    (h10 : s.levelling = t.levelling) (h11 : s.interlock = t.interlock) (h12 : s.link = t.link)
    (h13 : s.faults = t.faults) (h14 : s.service = t.service) : s = t := by
  cases s; cases t; simp_all

/-! ### The transmit queue -/

@[simp] theorem Link.updateShed_queue (l : Link) : l.updateShed.queue = l.queue := by
  unfold Link.updateShed; (repeat' split) <;> rfl
@[simp] theorem Link.updateShed_held (l : Link) : l.updateShed.held = l.held := by
  unfold Link.updateShed; (repeat' split) <;> rfl
@[simp] theorem Link.updateShed_listenOnly (l : Link) : l.updateShed.listenOnly = l.listenOnly := by
  unfold Link.updateShed; (repeat' split) <;> rfl
@[simp] theorem Link.updateShed_stateTimer (l : Link) : l.updateShed.stateTimer = l.stateTimer := by
  unfold Link.updateShed; (repeat' split) <;> rfl
@[simp] theorem Link.updateShed_ackMiss (l : Link) : l.updateShed.ackMiss = l.ackMiss := by
  unfold Link.updateShed; (repeat' split) <;> rfl

/-- Only the shed flag is touched. -/
theorem Link.updateShed_eq (l : Link) : l.updateShed = { l with shed := l.updateShed.shed } := by
  unfold Link.updateShed; (repeat' split) <;> rfl

/-- The shed flag: set from six entries up, clear from three down, else as it was (R159). -/
theorem Link.updateShed_shed (l : Link) : l.updateShed.shed =
    if 6 ≤ l.queue.length then true else if l.queue.length ≤ 3 then false else l.shed := by
  unfold Link.updateShed; (repeat' split) <;> rfl

/-- With room a frame joins at the tail; a full queue displaces the youngest of the least urgent class, or drops the
frame (R157). -/
theorem Link.append_cases (l : Link) (e : Entry) :
    (l.queue.length < 8 ∧ l.append e = ({ l with queue := l.queue ++ [e] }.updateShed, ⟨true, false⟩)) ∨
    (8 ≤ l.queue.length ∧ ∃ c, leastUrgent l.queue = some c ∧ e.cls < c ∧
      l.append e = ({ l with
        queue := removeYoungest c l.queue ++ [e]
        displaced := bump l.displaced }.updateShed,
        ⟨true, (youngest c l.queue).any (fun x => x.kind == .serviceReply)⟩)) ∨
    (8 ≤ l.queue.length ∧ (∀ c, leastUrgent l.queue = some c → c ≤ e.cls) ∧
      l.append e = ({ l with queueDropped := bump l.queueDropped }, ⟨false, false⟩)) := by
  unfold Link.append
  split
  · exact .inl ⟨‹_›, rfl⟩
  · split
    · rename_i h; exact .inr (.inr ⟨by omega, by simp [h], rfl⟩)
    · rename_i c h
      split
      · exact .inr (.inl ⟨by omega, c, h, ‹_›, rfl⟩)
      · exact .inr (.inr ⟨by omega, by simp [h]; omega, rfl⟩)

/-- With room a frame joins at the tail. -/
theorem Link.append_of_room {l : Link} {e : Entry} (h : l.queue.length < 8) :
    l.append e = ({ l with queue := l.queue ++ [e] }.updateShed, ⟨true, false⟩) := by simp [Link.append, h]

/-- A listen-only station takes no frame (R160). -/
theorem Link.offer_of_listenOnly {l : Link} {e : Entry} (h : l.listenOnly = true) : l.offer e = (l, ⟨false, false⟩) := by
  simp [Link.offer, h]

/-- A frame of a kind held once, with no such entry in the queue, is appended (R156). -/
theorem Link.offerSingle_of_no_twin {l : Link} {e : Entry} (h : ∀ x ∈ l.queue, e.twin x = false) :
    l.offerSingle e = l.append e := by
  have h1 : l.queue.any (fun x => e.twin x && x.inFlight) = false := by
    simp only [List.any_eq_false]; intro x hx; simp [h x hx]
  have h2 : l.queue.any (fun x => e.twin x) = false := by
    simp only [List.any_eq_false]; intro x hx; simp [h x hx]
  simp [Link.offerSingle, h1, h2]

/-- On an empty queue any frame becomes the one entry. -/
theorem State.offer_of_empty {s : State} {e : Entry} (h : s.link.queue = []) (hl : s.link.listenOnly = false) :
    s.offer e = { s with link := { s.link with queue := [e] }.updateShed } := by
  rcases e with ⟨k, c, t, d, p, f⟩
  cases k <;> simp [State.offer, Link.offer, hl, Link.offerSingle, Link.offerTrace, Link.append, h]

@[simp] theorem Link.append_stateTimer (l : Link) (e : Entry) : (l.append e).1.stateTimer = l.stateTimer := by
  unfold Link.append; (repeat' split) <;> simp

@[simp] theorem Link.append_listenOnly (l : Link) (e : Entry) : (l.append e).1.listenOnly = l.listenOnly := by
  unfold Link.append; (repeat' split) <;> simp

@[simp] theorem Link.append_held (l : Link) (e : Entry) : (l.append e).1.held = l.held := by
  unfold Link.append; (repeat' split) <;> simp

@[simp] theorem Link.offer_stateTimer (l : Link) (e : Entry) : (l.offer e).1.stateTimer = l.stateTimer := by
  unfold Link.offer Link.offerSingle Link.offerTrace; (repeat' split) <;> simp

@[simp] theorem Link.offer_listenOnly (l : Link) (e : Entry) : (l.offer e).1.listenOnly = l.listenOnly := by
  unfold Link.offer Link.offerSingle Link.offerTrace; (repeat' split) <;> simp

@[simp] theorem State.offerReply_stateTimer (s : State) (r : Reply) :
    (s.offerReply r).link.stateTimer = s.link.stateTimer := by simp [State.offerReply]

@[simp] theorem State.replyLeft_stateTimer (s : State) : s.replyLeft.link.stateTimer = s.link.stateTimer := by
  unfold State.replyLeft; split <;> simp

@[simp] theorem State.offer_stateTimer (s : State) (e : Entry) :
    (s.offer e).link.stateTimer = s.link.stateTimer := by
  simp only [State.offer]; split <;> simp

/-! ### The fault list -/

@[simp] theorem FaultList.finish_overflow (f : FaultList) (c : FaultCode) (q : Nat) :
    (f.finish c q).overflow = f.overflow := rfl
@[simp] theorem FaultList.finish_seconds (f : FaultList) (c : FaultCode) (q : Nat) :
    (f.finish c q).seconds = f.seconds := rfl
@[simp] theorem FaultList.finish_length (f : FaultList) (c : FaultCode) (q : Nat) :
    (f.finish c q).records.length = f.records.length := by simp [FaultList.finish]

@[simp] theorem FaultList.raise_seconds (f : FaultList) (c : FaultCode) (q : Nat) :
    (f.raise c q).seconds = f.seconds := by
  unfold FaultList.raise; (repeat' split) <;> rfl
@[simp] theorem FaultList.raise_millis (f : FaultList) (c : FaultCode) (q : Nat) :
    (f.raise c q).millis = f.millis := by
  unfold FaultList.raise; (repeat' split) <;> rfl

/-! ### The coil sweep -/

theorem State.checkSweep_of_not_sweeping {s : State} (h : s.sweeping = false) : s.checkSweep = s := by
  simp [State.checkSweep, h]

theorem State.giveSweepReply_of_none {s : State} (h : s.service.sweepFor = none) : s.giveSweepReply = s := by
  simp [State.giveSweepReply, h]

/-- The end of a sweep leaves start-up done in START, and the coils as they are. -/
theorem State.endSweep_startUp (s : State) (how : SweepState) : (s.endSweep how).startUp =
    { s.startUp with
      sweep := { s.startUp.sweep with state := how }
      done := s.startUp.done || s.ladder.mode == .start } := by
  simp [State.endSweep]

theorem State.coilCount_le (s : State) : s.coilCount ≤ 10 := by unfold State.coilCount; split <;> omega

/-- The search finds the lowest coil from `k` on that is not FAIL. -/
theorem State.nextCoil_eq_some (s : State) (i : Nat) : ∀ n k, k ≤ i → i < k + n → i < s.coilCount →
    s.coilFailed i = false → (∀ j, k ≤ j → j < i → s.coilFailed j = true) → s.nextCoil n k = some i := by
  intro n
  induction n with
  | zero => intro k h1 h2; omega
  | succ n ih =>
    intro k h1 h2 h3 h4 h5
    unfold State.nextCoil
    rcases Nat.lt_or_ge k i with h | h
    · rw [if_neg (by omega), if_pos (h5 k (by omega) h)]
      exact ih (k + 1) h (by omega) h3 h4 (fun j a b => h5 j (by omega) b)
    · obtain rfl : k = i := by omega
      rw [if_neg (by omega)]; simp [h4]

/-- The search finds nothing when every coil from `k` on is FAIL. -/
theorem State.nextCoil_eq_none (s : State) : ∀ n k, (∀ j, k ≤ j → j < s.coilCount → s.coilFailed j = true) →
    s.nextCoil n k = none := by
  intro n
  induction n with
  | zero => intros; rfl
  | succ n ih =>
    intro k h
    unfold State.nextCoil
    split
    · rfl
    · rename_i hk
      rw [if_pos (h k (by omega) (by omega))]
      exact ih _ (fun j a b => h j (by omega) b)

/-- The hand-over changes nothing that the sweep's conditions or its choice of coils look at. -/
@[simp] theorem State.handOver_sweepMayRun (s : State) : s.handOver.sweepMayRun = s.sweepMayRun := rfl
@[simp] theorem State.handOver_nextCoil (s : State) (n i : Nat) : s.handOver.nextCoil n i = s.nextCoil n i := by
  induction n generalizing i with
  | zero => rfl
  | succ n ih =>
    unfold State.nextCoil
    have h1 : s.handOver.coilCount = s.coilCount := rfl
    have h2 : s.handOver.coilFailed i = s.coilFailed i := rfl
    simp only [h1, h2, ih]

/-- A sweep starts at the lowest coil that is not FAIL, with the three blocks' drives handed over (R167). -/
theorem State.startSweep_of_lowest {s : State} {i : Nat} (h1 : i < s.coilCount) (h2 : s.coilFailed i = false)
    (h3 : ∀ j, j < i → s.coilFailed j = true) : s.startSweep = s.handOver.beginCoil i := by
  have hc := s.coilCount_le
  have h := s.nextCoil_eq_some i 10 0 (by omega) (by omega) h1 h2 (fun j _ hj => h3 j hj)
  simp [State.startSweep, State.sweepFrom, h]

end Sys2Proof.Machine
end

