-- ==== Sys2Proof/WellFormed.lean ====
section
/-! DEFINITION. Which commands could reach the part: a frame carries at most 14 payload bytes, the configuration
memory has 96 bytes, a FRAME_REJECTED carries a header that R152 rejects, and an UNKNOWN_REQUEST a payload that names
no request. `exec` is defined on every command, well formed or not. -/

namespace Sys2Proof

/-- The length field's good values: 0..14 payload bytes (The Chassis Link, frame table). -/
def payloadFits (payload : List Byte) : Bool := payload.length ≤ 14

/-- A service request: the request code and its arguments fit one payload. -/
def argsFit (args : List Byte) : Bool := args.length ≤ 13

/-- The configuration memory holds 96 bytes (R164). -/
def imageFits (image : List Byte) : Bool := image.length ≤ 96

/-- The well-formed commands. -/
def Instr.wellFormed : Instr → Bool
  | .powerOnReset _ => true
  | .serviceRestart _ => true
  | .configurationImageRead image => imageFits image
  | .sweepOrSkip => true
  | .sweepStep _ => true
  | .ladderPeriod => true
  | .stillTimerFull => true
  | .startupTimerLimit => true
  | .recoveryTimerFull => true
  | .stateFrame _ _ payload => payloadFits payload
  | .demandFrame _ payload => payloadFits payload
  | .alertFrame _ payload => payloadFits payload
  | .traceFrame _ payload => payloadFits payload
  | .rejectionRunBreak _ _ => true
  | .serviceReplyFrame _ payload => payloadFits payload
  | .frameCheckError => true
  | .frameFormatError => true
  | .frameRejected head payload => payloadFits payload && !Machine.headGood head
  | .peerStale _ => true
  | .peerLost _ => true
  | .peerAbsentLimit _ => true
  | .demandStale => true
  | .demandLost => true
  | .demandAbsentLimit => true
  | .alertExpiry _ _ _ => true
  | .wheelPulse _ _ => true
  | .pathStep _ => true
  | .trackerPeriod => true
  | .steeringPeriod _ => true
  | .trackingFault => true
  | .steerPinnedRepeat => true
  | .jointPeriod _ => true
  | .jointSensorRecovery _ => true
  | .jackknifeSet => true
  | .jackknifeClear => true
  | .jackknifeAlertRepeat => true
  | .jointLimitAlertRepeat => true
  | .brakePeriod _ _ => true
  | .chamberSensorRecovery _ _ => true
  | .slipPeriod => true
  | .gripReapply _ => true
  | .brakeDegraded _ => true
  | .brakeDegradedRepeat _ => true
  | .levellingPeriod _ => true
  | .airWindowStart => true
  | .cornerLocked _ => true
  | .outOfBandLimit _ => true
  | .heightSensorRecovery _ _ => true
  | .bellowsSensorRecovery _ _ => true
  | .supplySensorRecovery _ => true
  | .raiseSlow => true
  | .entrancePeriod _ => true
  | .lockTimeout _ => true
  | .closeTimeout _ => true
  | .reopeningDone _ => true
  | .entranceBreachRepeat _ => true
  | .demandComputation _ => true
  | .linkIdle => true
  | .arbitrationLost => true
  | .sendBitError => true
  | .frameSent _ => true
  | .linkAlone => true
  | .stateTimer => true
  | .statePromotion => true
  | .secondsTick => true
  | .snapshot _ args => argsFit args
  | .readFaults _ args => argsFit args
  | .clearFaults _ args => argsFit args
  | .calibrateHeight _ args => argsFit args
  | .coilSweep _ args => argsFit args
  | .restart _ args => argsFit args
  | .unknownRequest _ payload => payloadFits payload && !Machine.namesRequest payload

end Sys2Proof
end

