-- ==== Sys2Proof/Tests/Slice0.lean ====
section
/-! SUPPORT. The model's own tests. The expected values come from the manual's worked cases and tables, or are worked
by hand from its rules; each test names its source. The witnesses at the end show states that meet the hypotheses of the
statements. -/

namespace Sys2Proof.Tests

open Sys2Proof Sys2Proof.Machine

/-! ## Small states -/

/-- The state after a command. -/
def after (c : Instr) (s : State) : State :=
  match exec c s with
  | .next t => t
  | .fault _ => s
  | .refused _ => s

/-- The four-axle bus of the manual's worked cases, with no entrance slot fitted. -/
def bus : Image :=
  { defaultImage with
    present := 15
    sections := #v[0, 0, 1, 2, 0, 0, 0, 0]
    nominal := #v[720, 1100, 1050, 1000, 1000, 1000, 1000, 1000]
    unsprung := 260
    fitted := ⟨false, false⟩
    pulsesPerStep := 2
    busEntrances := 0xFFFF
    supplyFitted := true }

/-- Station `own` with configuration `c`, started up. -/
def station (own : Fin 8) (c : Image) : State :=
  { startUp := { strap := some own, config := some c, status := .good, decided := true, done := true } }

/-- Station 0, the cab station. -/
def cab : State := station 0 { bus with role := .cab }

/-- Station 2, which steers axle 3 and watches joint 0. -/
def axle3 : State :=
  station 2 { bus with role := .steer, axleOffset := 110, joint := some 0, jointOffset := 75, jointLever := 3300, lever := 4200 }

/-- Station 1, a plain station with its kerb side on the right. -/
def axle2 : State := station 1 bus

/-- A DEMAND record that is FRESH with these values. -/
def withDemand (s : State) (v : DemandValues) : State :=
  { s with peerView := { s.peerView with demand := { freshness := .fresh, age := 0, values := v } } }

/-- A mode and a qualifier. -/
def inMode (s : State) (m : Mode) (q : Qualifier) : State :=
  { s with ladder := { s.ladder with mode := m, qualifier := q, stillTimer := 500 } }

/-- A peer's record with this section, load and deficit, READY and ENT_LOCKED set. -/
def heard (sect load deficit : Nat) : PeerRecord :=
  { sect, role := .plain, mode := .drive, load, speed := 300, deficit, filling := false, ready := true, entLocked := true,
    stopConfirmed := false, anyBreach := false, faultSummary := 0, supply := none }

/-- A FRESH peer. -/
def freshPeer (r : PeerRecord) : Peer := { freshness := .fresh, age := 0, record := some r }

/-- Station `s` with the peers of the base share case, station 1 with this deficit. -/
def withPeers (s : State) (deficit1 : Nat) : State :=
  { s with peerView := { s.peerView with
      peers := #v[freshPeer (heard 0 720 0), freshPeer (heard 0 1100 deficit1), freshPeer (heard 1 1050 0),
        freshPeer (heard 2 950 0), {}, {}, {}, {}] } }

/-- From station `n` to all. -/
def toAll (n : Fin 8) : Address := ⟨n, .all⟩

/-- A good configuration image for station 2, with the settings of the four-axle bus; its check value was worked out
apart from the model, bit by bit from the manual's text. -/
def goodImage : List Byte :=
  [1, 2, 0, 15, 0, 0, 1, 2, 0, 0, 0, 0, 2, 208, 4, 76, 4, 26, 3, 232, 3, 232, 3, 232] ++
  [3, 232, 3, 232, 1, 4, 1, 0, 1, 0, 248, 70, 5, 1, 0, 2, 255, 255, 2, 138, 40, 100, 0, 120] ++
  [3, 82, 0, 200, 0, 200, 23, 12, 110, 0, 75, 12, 228, 2, 88, 16, 104, 5, 220, 30, 1, 44, 1, 244] ++
  [0, 0, 0, 0, 0, 0, 0, 0, 0, 0, 0, 0, 0, 0, 0, 0, 0, 0, 0, 0, 0, 0, 233, 115]

/-! ## Ill-formed commands -/

theorem test_payload_of_15_is_ill_formed :
    (Instr.stateFrame false (toAll 1) (List.replicate 15 0)).wellFormed = false := by decide
theorem test_payload_of_14_is_well_formed :
    (Instr.stateFrame false (toAll 1) (List.replicate 14 0)).wellFormed = true := by decide
theorem test_arguments_of_14_are_ill_formed :
    (Instr.snapshot (toAll 1) (List.replicate 14 0)).wellFormed = false := by decide
theorem test_image_of_97_is_ill_formed :
    (Instr.configurationImageRead (List.replicate 97 0)).wellFormed = false := by decide
theorem test_rejected_frame_with_a_good_header_is_ill_formed :
    (Instr.frameRejected ⟨2, 1, true, 0, 8⟩ []).wellFormed = false := by decide
theorem test_unknown_request_that_names_one_is_ill_formed :
    (Instr.unknownRequest (toAll 6) [6]).wellFormed = false := by decide

/-- No row of the table has bits. -/
theorem test_no_word_spells_a_command : decodeTableWord 16 0xACE1 = none ∧ State.reset.withFetchWord 16 1 = State.reset :=
  ⟨rfl, rfl⟩

/-! ## Resets, configuration, sweep -/

/-- R164: STN0 + 2 × STN1 + 4 × STN2, with STN0 and STN2 open. -/
theorem test_straps : (after (.powerOnReset ⟨true, false, true⟩) cab).startUp.strap = some 5 := by decide

/-- R172: a restart keeps a record with its active flag clear. -/
theorem test_restart_keeps_faults :
    (after (.serviceRestart ⟨false, false, false⟩) { cab with
      service := { cab.service with restartArmed := true }
      faults := { records := [⟨.peerLost, 3, 7, 2, true⟩], overflow := true, seconds := 9 } }).faults =
      { records := [⟨.peerLost, 3, 7, 2, false⟩], overflow := true, seconds := 0 } := by decide

/-- R164: an image whose check value agrees and whose fields are in range is accepted. -/
theorem test_good_image : imageFault 2 goodImage = none := by decide +kernel

/-- R164: the same image in station 4, which its present mask leaves out. -/
theorem test_image_without_own_number : imageFault 4 goodImage = some 3 := by decide +kernel

/-- R164, R165: a memory that does not answer fails the check value, and the default image stands in. -/
theorem test_silent_memory :
    (after (.configurationImageRead []) { State.reset with startUp := { State.reset.startUp with strap := some 2 } }).startUp.badQualifier
      = some 255 := by decide +kernel

/-- Worked case "the first steps of a coil test": the register starts at 0xACE1 in station 0. -/
theorem test_sweep_starts :
    (after .sweepOrSkip { (inMode cab .start .standstill) with startUp :=
      { cab.startUp with decided := false, done := false } }).startUp.sweep.pattern = 0xACE1#16 := by decide

/-- Station 0 in PARK at standstill with a sweep RUNNING on coil 0. -/
def swept (w : Sweep) : State :=
  { (inMode cab .park .standstill) with startUp := { cab.startUp with sweep := { w with state := .running } } }

/-- The same case, step 1: 0xACE1 to 0x5670, drive signature 0x8000, the open coil's 0. -/
theorem test_first_step :
    (after (.sweepStep false) (swept { pattern := 0xACE1#16 })).startUp.sweep =
      ⟨.running, 0, 1, 0x5670#16, 0x8000#16, 0x0000#16⟩ := by decide

/-- The same case, step 8: 0x4559, drive signature 0xC200 to 0xE100. -/
theorem test_eighth_step :
    (after (.sweepStep true) (swept { step := 7, pattern := 0x4559#16, driveSig := 0xC200#16, senseSig := 0xC200#16 })).startUp.sweep.senseSig
      = 0xE100#16 := by decide

/-! ## The mode ladder -/

/-- R10: STOP to KNEEL needs the confirmed stop brake. -/
theorem test_stop_to_kneel :
    (after .ladderPeriod { (withDemand (inMode axle2 .stop .standstill) { kneel := true }) with
      brake := { axle2.brake with confirmed := true } }).ladder.mode = .kneel := by decide

/-- R16: a LOST record takes every mode to BACKUP. -/
theorem test_lost_demand_is_backup :
    (after .ladderPeriod { (inMode axle2 .drive .moving) with
      peerView := { axle2.peerView with demand := { freshness := .lost } } }).ladder.mode = .backup := by decide

/-- R3: the timer reaches 500 ms. -/
theorem test_still_timer :
    (after .stillTimerFull { axle2 with ladder := { axle2.ladder with stillTimer := 490 } }).ladder.qualifier = .standstill := by
  decide

/-- R8: no DEMAND within 2000 ms in START. -/
theorem test_startup_limit :
    (after .startupTimerLimit { axle2 with ladder := { axle2.ladder with startupTimer := 2000 } }).backupCause = true := by decide

/-- R17. -/
theorem test_recovery_timer :
    (after .recoveryTimerFull { (withDemand (inMode axle2 .backup .standstill) {}) with
      ladder := { axle2.ladder with mode := .backup, recoveryTimer := 990 } }).ladder.recoveryTimer = 1000 := by decide

/-! ## Frames -/

/-- Worked sequence "a peer falls silent": load 960, deficit 0 makes the entry FRESH again and PEER_LOST inactive.
Byte 0 is section 2, role PLAIN, mode DRIVE; the flags are READY and ENT_LOCKED. -/
theorem test_state_frame :
    let t := after (.stateFrame false (toAll 3) [0x96, 0x03, 0xC0, 0x01, 0x2C, 0, 0, 0x06, 0])
      { axle2 with faults := { records := [⟨.peerLost, 3, 1, 1, true⟩] } }
    t.peerLoad 3 = 960 ∧ t.peerReady 3 = true ∧ t.faults.records = [⟨.peerLost, 3, 1, 1, false⟩] := by decide

/-- R22: a load of 0 is malformed. -/
theorem test_malformed_state :
    (after (.stateFrame true (toAll 3) [0x96, 0, 0, 1, 0x2C, 0, 0, 6, 0]) axle2).peerView.malformed = 1 := by decide

/-- R27: D 250, D_valid and the reverse flag; R48 empties the path queue. -/
theorem test_demand_frame :
    let t := after (.demandFrame (toAll 0) [0, 250, 0x11, 0x80, 0x01]) { axle3 with
      tracker := { axle3.tracker with queue := [⟨7, 0, false⟩] } }
    t.demand = { d := 250, dValid := true, rev := true, release := 0x8001 } ∧ t.tracker.queue = [] := by decide

/-- Worked sequence "alerts at two joints", at 47 ms: joint 1's alert joins the set. -/
theorem test_alert_frame :
    (after (.alertFrame (toAll 3) [1, 1]) { cab with
      peerView := { cab.peerView with alerts := [⟨.jackknife, 0, 2, 5⟩] } }).peerView.alerts =
      [⟨.jackknife, 0, 2, 5⟩, ⟨.jackknife, 1, 3, 0⟩] := by decide

/-- The same sequence, at 163 ms: joint 0's alert is no longer active. -/
theorem test_alert_expiry :
    let t := after (.alertExpiry .jackknife 0 2) { cab with
      peerView := { cab.peerView with alerts := [⟨.jackknife, 0, 2, 61⟩, ⟨.jackknife, 1, 3, 16⟩] } }
    t.jackknifed 0 = false ∧ t.jackknifed 1 = true := by decide

/-- R31: among sixteen entries of one age the lowest code, then qualifier, then sender is replaced. -/
theorem test_full_alert_set :
    let l := [⟨.jackknife, 1, 2, 9⟩, ⟨.jackknife, 0, 3, 9⟩, ⟨.jackknife, 0, 2, 9⟩, ⟨.jointLimit, 0, 2, 9⟩] ++
      (List.range 12).map fun q => (⟨.brakeDegraded, BitVec.ofNat 8 q, 2, 9⟩ : AlertEntry)
    let t := after (.alertFrame (toAll 3) [1, 1]) { cab with peerView := { cab.peerView with alerts := l } }
    t.peerView.alerts = l.erase ⟨.jackknife, 0, 2, 9⟩ ++ [⟨.jackknife, 1, 3, 0⟩] ∧ t.peerView.displaced = 1 := by decide

/-- Worked case "a gap across the wrap of the index": TRACE (3, 310) after 65534 fills 65535, 0, 1, 2 with κ 298. -/
theorem test_gap_across_the_wrap :
    (after (.traceFrame (toAll 0) [0, 3, 1, 54]) { (inMode axle3 .drive .moving) with
      tracker := { axle3.tracker with queue := [⟨65534, 298, false⟩] } }).tracker.queue =
      [⟨65534, 298, false⟩, ⟨65535, 298, true⟩, ⟨0, 298, true⟩, ⟨1, 298, true⟩, ⟨2, 298, true⟩, ⟨3, 310, false⟩] := by
  decide

/-- Worked case "a broken path": TRACE 1012 after 1000. -/
theorem test_broken_path :
    let t := after (.traceFrame (toAll 0) [3, 244, 0, 0]) { (inMode axle3 .drive .moving) with
      tracker := { axle3.tracker with queue := [⟨1000, 0, false⟩] } }
    t.tracker.queue = [⟨1012, 0, false⟩] ∧ t.faults.records = [⟨.traceBroken, 0, 0, 1, true⟩] := by decide

/-- R46: the eighth ignored arrival in a row is a break with qualifier 1. -/
theorem test_rejection_run :
    let t := after (.rejectionRunBreak 5 20) { (inMode axle3 .drive .moving) with
      tracker := { axle3.tracker with queue := [⟨1000, 0, false⟩], rejectionRun := 7 } }
    t.tracker.queue = [⟨5, 20, false⟩] ∧ t.faults.records = [⟨.traceBroken, 1, 0, 1, true⟩] := by decide

/-- R20: a stranger's reply frame is counted. -/
theorem test_stranger : (after (.serviceReplyFrame (toAll 6) [1, 0]) axle2).peerView.stranger = 1 := by decide

/-- R34, R35: the own number heard. -/
theorem test_duplicate :
    let t := after (.alertFrame (toAll 1) [1, 1]) axle2
    t.link.listenOnly = true ∧ t.peerView.duplicate = true ∧ t.backupCause = true := by decide

/-- R157, R160, R174: the queue is emptied of a waiting reply, and its slot is FREE; R148: before the configuration is held a
frame is acknowledged and discarded. -/
theorem test_frames_set_aside :
    let t := after (.stateFrame false (toAll 1) []) { axle2 with
      link := { axle2.link with queue := [newEntry .serviceReply 6 [1, 0]] }, service := { axle2.service with slot := .queued } }
    t.link.queue = [] ∧ t.service.slot = .free ∧
    after (.alertFrame (toAll 1) [1, 1]) State.reset
      = { State.reset with link := { State.reset.link with ackDriven := true, recessive := 0 } } := by decide

/-- R152, R153: the three ways a frame fails, and which of them is acknowledged. -/
theorem test_damaged_frames :
    (after .frameCheckError cab).link.checkError = 1 ∧ (after .frameFormatError cab).link.format = 1 ∧
      (after (.frameRejected ⟨4, 0, true, 0, 8⟩ []) cab).link.rejected = 1 ∧
      (after (.frameRejected ⟨4, 0, true, 0, 8⟩ []) cab).link.ackDriven = true := by decide

/-! ## Limits -/

/-- Worked sequence "a peer falls silent": STALE at 61 ms, LOST at 201 ms. -/
theorem test_peer_limits :
    (((after (.peerStale 3) { (withPeers axle2 0) with peerView := { (withPeers axle2 0).peerView with
      peers := (withPeers axle2 0).peerView.peers.set 3 { freshPeer (heard 2 950 120) with age := 61 } } }).peer 3).freshness
      = .stale) ∧
    (after (.peerLost 3) { (withPeers axle2 0) with peerView := { (withPeers axle2 0).peerView with
      peers := (withPeers axle2 0).peerView.peers.set 3 { freshPeer (heard 2 950 120) with age := 201 } } }).peerLoad 3
      = 1000 := by decide

/-- R23: an entry never heard raises PEER_LOST once its age has passed 2000 ms. -/
theorem test_peer_absent :
    (after (.peerAbsentLimit 3) { axle2 with peerView := { axle2.peerView with
      peers := axle2.peerView.peers.set 3 { age := 2001 } } }).faults.records = [⟨.peerLost, 3, 0, 1, true⟩] := by decide

/-- R28: STALE past 30 ms, LOST past 100 ms, the fault of a record never heard at 2000 ms. -/
theorem test_demand_limits :
    (after .demandStale { axle2 with peerView := { axle2.peerView with
      demand := { freshness := .fresh, age := 31 } } }).demandFreshness = .stale ∧
    (after .demandLost { axle2 with peerView := { axle2.peerView with
      demand := { freshness := .stale, age := 101 } } }).demandFreshness = .lost ∧
    (after .demandAbsentLimit { axle2 with peerView := { axle2.peerView with
      demand := { age := 2000 } } }).faults.records = [⟨.demandLost, 1, 0, 1, true⟩] := by decide

/-! ## Wheels, path, steering, joint -/

/-- Worked case "trace samples at the front axle": the third pulse only counts, to 3. -/
theorem test_pulse_counts :
    (after (.wheelPulse .right 2833333) { cab with tracker := { cab.tracker with traceIndex := 4710, accumulator := 2 } }).tracker.accumulator
      = 3 := by decide

/-- The same case: the fourth pulse queues TRACE (4711, 296). The angle 1000 cd is 2.5 V + 1/3 V. -/
theorem test_path_step :
    let t := after (.pathStep 2833333) { cab with tracker := { cab.tracker with traceIndex := 4710, accumulator := 3 } }
    t.tracker.accumulator = 0 ∧ t.tracker.traceIndex = 4711 ∧
      t.link.queue.map (·.payload) = [[0x12, 0x67, 0x01, 0x28]] := by decide

/-- R49. -/
theorem test_tracker_in_backup :
    (after .trackerPeriod { (inMode axle3 .backup .moving) with
      tracker := { axle3.tracker with queue := [⟨7, 0, false⟩] } }).tracker.queue = [] := by decide

/-- Worked case "the steer target through a speed change": δp from κ 500, 700 and −296. -/
theorem test_path_angle :
    pathAngle 500 4200 1500 = 1203 ∧ pathAngle 700 4200 1500 = 1500 ∧ pathAngle (-296) 4200 1500 = -712 := by decide

/-- The same case: fades at 120, 400 and 430, and the targets 601 and −249 (the ready queue is left out here). -/
theorem test_fade :
    fadeFactor 120 300 500 = 1000 ∧ fadeFactor 400 300 500 = 500 ∧ fadeFactor 430 300 500 = 350 ∧
      ((1203 : Int) * 500).tdiv 1000 = 601 ∧ ((-712 : Int) * 350).tdiv 1000 = -249 := by decide

/-- R53, R58, R59: with no path the axle goes home, and the command falls by the rate limit, 900 to 870 (worked case
"a broken path"). -/
theorem test_steering_goes_home :
    let t := after (.steeringPeriod 2800000) { (inMode axle3 .drive .moving) with
      steering := { axle3.steering with state := .follow, command := 900, dp := 900 } }
    t.steering.state = .home ∧ t.steering.command = 870 := by decide

/-- Worked case "an actuator that stops moving", period 30. -/
theorem test_tracking_fault :
    let t := after .trackingFault { axle3 with
      steering := { axle3.steering with state := .follow, command := 800, measured := some 0, tracking := 19, lockOn := true } }
    t.steering.state = .pinned ∧ t.steering.lockOn = false ∧ t.link.queue.map (·.payload) = [[3, 0]] := by decide

/-- Worked case "expected angles at joint 0". -/
theorem test_expected_angles : expectedAngle 296 3300 = 560 ∧ expectedAngle (-500) 3300 = -945 := by decide

/-- Worked case "the limit on a hairpin": 5200 sets the flag (2.5 V + 1.73334 V reads 5200). -/
theorem test_joint_limit :
    let t := after (.jointPeriod 4233334) axle3
    t.joint.limit = true ∧ t.link.queue.map (·.payload) = [[2, 0]] := by decide

/-- R66 and R67, at their counts. -/
theorem test_jackknife :
    (after .jackknifeSet { axle3 with joint := { axle3.joint with mismatch := 4, lastMismatch := some 601 } }).joint.jackknife
      = true ∧
    (after .jackknifeClear { axle3 with joint := { axle3.joint with jackknife := true, clear := 19, lastMismatch := some 299 } }).joint.jackknife
      = false := by decide

/-- R56, R70, R108, R139: the repeats queue their alerts (qualifiers: joint 0, joint 0, cause sensor 1, right wheel 1,
slot 1 of station 2). -/
theorem test_alert_repeats :
    (after .jackknifeAlertRepeat { axle3 with joint := { axle3.joint with jackknife := true } }).link.queue.map (·.payload) = [[1, 0]] ∧
    (after .jointLimitAlertRepeat { axle3 with joint := { axle3.joint with limit := true } }).link.queue.map (·.payload) = [[2, 0]] ∧
    (after .steerPinnedRepeat { axle3 with steering := { axle3.steering with state := .pinned, cause := .sensor } }).link.queue.map (·.payload)
      = [[3, 1]] ∧
    (after (.brakeDegradedRepeat .right) { axle3 with slip := { axle3.slip with
      wheels := ⟨{}, { degraded := true }⟩ } }).link.queue.map (·.payload) = [[4, 1]] ∧
    (after (.entranceBreachRepeat .one) { axle3 with
      slip := { axle3.slip with wheels := ⟨{ speed := 320 }, { speed := 320 }⟩ }
      interlock := { axle3.interlock with records := ⟨none, some { state := .breach, alerting := true }⟩ } }).link.queue.map (·.payload)
      = [[5, 5]] := by decide

/-- R64, R81, R111, R118, R122: the tenth valid reading. -/
theorem test_sensor_recoveries :
    (after (.jointSensorRecovery 2500000) { axle3 with joint := { axle3.joint with
      angle := { valid := false, recovery := 9 } } }).joint.angle.value = some 0 ∧
    (after (.chamberSensorRecovery .left 1500000) { axle3 with brake := { axle3.brake with
      chamber := ⟨{ valid := false, recovery := 9 }, {}⟩ } }).brake.chamber.left.value = some 300 ∧
    (after (.heightSensorRecovery .left 2390000) { axle3 with levelling := { axle3.levelling with
      corners := ⟨{ height := { valid := false, recovery := 9 } }, {}⟩ } }).levelling.corners.left.height.value = some (-8) ∧
    (after (.bellowsSensorRecovery .left 2180000) { axle3 with levelling := { axle3.levelling with
      corners := ⟨{ bellows := { valid := false, recovery := 9 } }, {}⟩ } }).levelling.corners.left.bellows.value = some 420 ∧
    (after (.supplySensorRecovery 1500000) { axle3 with levelling := { axle3.levelling with
      supply := { valid := false, recovery := 9 } } }).levelling.supply.value = some 320 := by decide

/-! ## Brakes -/

/-- Pedals and chambers in range with nothing pressed. -/
def quiet : Sides Microvolt := ⟨500000, 500000⟩

/-- Station `s` in the base share case: D 250, its own load `m`, station 1 with this deficit. -/
def braking (s : State) (m deficit1 : Nat) : State :=
  { (withDemand (inMode (withPeers s deficit1) .drive .moving) { d := 250, dValid := true }) with
    levelling := { s.levelling with load := m } }

/-- Worked case "base shares on the four-axle bus": station 0, 17,461 N and 146 kPa. -/
theorem test_base_share :
    let t := after (.brakePeriod quiet ⟨500000, 500000⟩) (braking cab 720 0)
    t.brake.fBase = 17461 ∧ t.brake.pReq = 146 ∧ t.brake.wSum = 3938000 := by decide +kernel

/-- Worked case "deficit, takeover and the next period": station 2, T 1539 N and 234 kPa. -/
theorem test_takeover :
    let t := after (.brakePeriod quiet ⟨0, 0⟩) (braking axle3 1050 400)
    t.brake.takeover = 1539 ∧ t.brake.pReq = 234 := by decide +kernel

/-! ## Slip control -/

/-- Worked case "one reading of slip": v_ref 300 and 299 against 255. -/
theorem test_slip : slipOf 300 255 = some 150 ∧ slipOf 299 255 = some 147 ∧ slipOf 298 260 = some 127 := by decide

/-- Worked sequence "one wheel on ice", periods 2, 3, 6 and 9. -/
theorem test_one_wheel_on_ice :
    (({ state := .apply, target := 221 } : Wheel).act 100 221).state = .hold ∧
    (({ state := .hold, target := 221, held := 221 } : Wheel).act 163 221).target = 181 ∧
    (({ state := .dump, target := 101 } : Wheel).act 60 221).state = .hold ∧
    (({ state := .hold, target := 101, held := 101, grip := 2 } : Wheel).act 10 221).target = 121 := by decide

/-- R101: the reference under 30 forces a wheel to OFF. -/
theorem test_slow_wheel_is_off :
    (after .slipPeriod { axle3 with slip := { axle3.slip with wheels := ⟨{ state := .dump, target := 7 }, {}⟩ } }).slip.wheels.left.state
      = .off := by decide

/-- R104: the third period of grip, 101 to 121. -/
theorem test_grip_reapply :
    (after (.gripReapply .left) { (braking axle3 1050 0) with
      brake := { axle3.brake with pReq := 221 }
      slip := { axle3.slip with vref := 296, wheels := ⟨{ state := .hold, slip := some 10, grip := 2, target := 101, held := 101 }, {}⟩ } }).slip.wheels.left.target
      = 121 := by decide

/-- Worked sequence "a wheel that does not turn", period 100. -/
theorem test_brake_degraded :
    let t := after (.brakeDegraded .left) { axle3 with
      slip := { axle3.slip with wheels := ⟨{ state := .dump, slip := some 1000, lock := 99 }, {}⟩ } }
    t.slip.wheels.left.degraded = true ∧ t.link.queue.map (·.payload) = [[4, 0]] := by decide

/-- R108: the same inside a period, with the reference that a FRESH peer holds at 300. -/
theorem test_degraded_in_its_period :
    let t := after .slipPeriod { (braking axle3 1050 0) with
      slip := { axle3.slip with wheels := ⟨{ state := .dump, slip := some 1000, lock := 99 }, {}⟩ } }
    t.slip.wheels.left.degraded = true ∧ t.slip.wheels.left.lock = 100 ∧ t.link.queue.map (·.payload) = [[4, 0]] := by
  decide +kernel

/-! ## Levelling -/

/-- Worked cases "lowering the kerb corner" (2.39 V with trim −8 is h 0, so e is −70 and the corner exhausts) and "a
load reading" (2.18 V on both bellows is a load of 1100). -/
theorem test_lowering_the_kerb_corner :
    let t := after (.levellingPeriod ⟨⟨2500000, 2390000⟩, ⟨2180000, 2180000⟩, 3500000⟩)
      { (inMode axle2 .kneel .standstill) with
        levelling := { axle2.levelling with corners := ⟨{}, { trim := -8 }⟩ } }
    t.levelling.corners.right.h = some 0 ∧ t.levelling.corners.right.err = some (-70) ∧
      t.levelling.corners.right.valve = .exhaust ∧ t.levelling.corners.left.valve = .closed := by decide +kernel

/-- Worked case "a load reading". -/
theorem test_load : loadOf 260 256 420 420 = 1100 ∧ loadOf 260 256 440 440 = 1140 := by decide

/-- Worked case "allowance and share over several windows", at 2000 ms: the fall of 30 takes A from 120 to 108, and
108 / 3 = 36. -/
theorem test_air_window :
    let t := after .airWindowStart { axle2 with
      ladder := { axle2.ladder with mode := .stop }
      peerView := { axle2.peerView with peers := #v[freshPeer { heard 0 720 0 with filling := true }, {}, freshPeer { heard 1 1050 0 with filling := true }, {}, {}, {}, {}, {}] }
      levelling := { axle2.levelling with
        band := some .limited
        limitedFrom := some .abundant
        started := true
        elapsed := 99
        allowance := 120
        windowSupply := some 850
        supplyValue := some 820 } }
    t.levelling.allowance = 108 ∧ t.levelling.share = 36 := by decide +kernel

/-- Worked case "the SCARCE cut during a raise": the window limit falls from 32 to 15. -/
theorem test_scarce_cut :
    (State.cutWindow { (inMode axle3 .raise .standstill) with
      levelling := { axle3.levelling with limit := 32, used := 10, n := 3 } }).levelling.limit = 15 := by decide

/-- R114: the twentieth period in band. -/
theorem test_corner_locked :
    (after (.cornerLocked .left) { axle2 with levelling := { axle2.levelling with
      corners := ⟨{ err := some 5, inBand := 19 }, {}⟩ } }).levelling.corners.left.locked = true := by decide

/-- R115: the 200th period out of band in DRIVE; the corner is too high and exhausts. -/
theorem test_out_of_band :
    (after (.outOfBandLimit .left) { (inMode axle2 .drive .moving) with levelling := { axle2.levelling with
      corners := ⟨{ err := some (-6), outBand := 199 }, {}⟩ } }).levelling.corners.left.valve = .exhaust := by decide

/-- R121. -/
theorem test_raise_slow :
    (after .raiseSlow { (inMode axle2 .raise .standstill) with levelling := { axle2.levelling with raiseTimer := 19990 } }).faults.records
      = [⟨.raiseSlow, 0, 0, 1, true⟩] := by decide

/-! ## Entrances -/

/-- Station 1 with both slots fitted, KNELT, its stop brake confirmed, slot 1 in this record and slot 0 LOCKED. -/
def doors (e : Entrance) (bit : Bool) : State :=
  { (withDemand (inMode (station 1 { bus with fitted := ⟨true, true⟩ }) .knelt .standstill)
      { release := if bit then 0x0008 else 0 }) with
    brake := { confirmed := true }
    interlock := { records := ⟨some { state := .locked }, some e⟩ } }

/-- A shut and bolted slot. -/
def shut : SlotInputs := ⟨true, true, false, false⟩

/-- Worked sequence "an entrance that meets a passenger", at 0 ms: release bit 3 set. -/
theorem test_release :
    ((after (.entrancePeriod ⟨shut, shut⟩) (doors { state := .locked } true)).entrance .one).map (fun e => (e.state, e.phase, e.outputs))
      = some (.released, .held, ⟨true, false, false⟩) := by decide +kernel

/-- The same sequence, at 16,500 ms: the safety edge. -/
theorem test_obstructed :
    ((after (.entrancePeriod ⟨shut, ⟨false, false, true, false⟩⟩) (doors { state := .closing, phase := .driving, timer := 1500 } false)).entrance
      .one).map (fun e => (e.state, e.reversals, e.outputs)) = some (.obstructed, 1, ⟨true, true, false⟩) := by decide +kernel

/-- R137 and R135: the two timeouts. -/
theorem test_timeouts :
    ((after (.lockTimeout .one) (doors { state := .closing, phase := .latching, timer := 990 } false)).entrance .one).map (·.cause)
      = some .lockTimeout ∧
    ((after (.closeTimeout .one) (doors { state := .closing, phase := .driving, timer := 7990 } false)).entrance .one).map (·.cause)
      = some .closeTimeout := by decide +kernel

/-- The same sequence, at 20,900 ms: reopening done with count 3 leaves the entrance OPEN. -/
theorem test_reopening :
    ((after (.reopeningDone .one) (doors { state := .obstructed, timer := 990, reversals := 3 } false)).entrance .one).map (·.state)
      = some .opened := by decide +kernel

/-- Worked case "the drive flag in the cab's view", lines 1 and 6. -/
theorem test_drive_flag :
    (({ (withPeers cab 0) with interlock := { ready := true, entLocked := true } } : State).formDemand
      ⟨false, false, false, false, false, false⟩).drive = true ∧
    (({ (withPeers cab 0) with
        interlock := { ready := true, entLocked := true }
        peerView := { (withPeers cab 0).peerView with alerts := [⟨.jackknife, 1, 3, 0⟩] } } : State).formDemand
      ⟨false, false, false, false, true, false⟩).drive = false := by decide +kernel

/-- R144: the computation queues the DEMAND; D 250, D_valid, stop. -/
theorem test_demand_computation :
    (after (.demandComputation ⟨true, false, false, false, false, false⟩)
      { cab with brake := { cab.brake with d := 250, dValid := true } }).link.queue.map (·.payload) = [[0, 250, 3, 0, 0]] := by
  decide +kernel

/-! ## The link controller -/

/-- R151 and the worked case "the cab's queue while the link is held": a promoted STATE is 280, a DEMAND 296, and by
the frame table an ALERT is 80. -/
theorem test_identifiers :
    ({ kind := .state, cls := 1, dest := 8, payload := [] } : Entry).ident 0 = 280 ∧
    (newEntry .demand 8 []).ident 0 = 296 ∧ (newEntry .alert 8 []).ident 0 = 80 := by decide

/-- The same case, at 12 ms: T 7005 with four TRACE entries drops T 7001. -/
theorem test_trace_dropped :
    let t := State.offer { cab with link := { cab.link with queue := [newEntry .state 8 [], newEntry .demand 8 []] ++
      [newEntry .trace 8 [0x1B, 0x59], newEntry .trace 8 [0x1B, 0x5A], newEntry .trace 8 [0x1B, 0x5B], newEntry .trace 8 [0x1B, 0x5C]] } }
      (newEntry .trace 8 [0x1B, 0x5D])
    t.link.queue.length = 6 ∧ t.link.traceDropped = 1 ∧ t.link.shed = true ∧
      t.link.queue.map (·.payload) = [[], [], [0x1B, 0x5A], [0x1B, 0x5B], [0x1B, 0x5C], [0x1B, 0x5D]] := by decide

/-- R156, R157: a full queue of seven ALERT entries and a reply. An ALERT displaces the reply, whose slot is FREE; a reply has
no place; a DEMAND for the one that waits takes its place in the queue. -/
theorem test_full_queue :
    let alerts := (List.range 7).map fun q => newEntry .alert 8 [5, BitVec.ofNat 8 q]
    let s := { axle2 with
      link := { axle2.link with queue := alerts ++ [newEntry .serviceReply 6 [1, 0]] }
      service := { axle2.service with slot := .queued } }
    let t := s.offer (newEntry .alert 8 [1, 0])
    (t.link.queue = alerts ++ [newEntry .alert 8 [1, 0]] ∧ t.link.displaced = 1 ∧ t.service.slot = .free) ∧
    (t.offer (newEntry .serviceReply 6 [1, 0])).link = { t.link with queueDropped := 1 } ∧
    ({ axle2 with link := { axle2.link with queue := [newEntry .demand 8 [1], newEntry .alert 8 [5, 0]] } } : State).offer
      (newEntry .demand 8 [2]) = { axle2 with link := { axle2.link with queue := [newEntry .demand 8 [2], newEntry .alert 8 [5, 0]] } } := by
  decide

/-- The same case, at 55.016 ms: the STATE, promoted, goes in flight before the DEMAND. -/
theorem test_link_idle :
    (after .linkIdle { cab with link := { cab.link with
      queue := [{ newEntry .state 8 [] with cls := 1 }, newEntry .demand 8 []] } }).link.queue.map (·.inFlight)
      = [true, false] := by decide +kernel

/-- A queue with an ALERT in flight and a STATE behind it. -/
def sendingState : State :=
  { axle3 with link := { axle3.link with
      queue := [{ newEntry .alert 8 [3, 0] with inFlight := true }, newEntry .state 8 []]
      ackMiss := 15 } }

/-- R150, R154, R153: a lost arbitration keeps the entry; a bit error and a frame sent take it out; the sixteenth
frame without acknowledgement raises LINK_ALONE. -/
theorem test_attempts :
    (after .arbitrationLost sendingState).link.queue.length = 2 ∧
    (after .sendBitError sendingState).link.sendError = 1 ∧ (after .sendBitError sendingState).link.queue.length = 1 ∧
    (after (.frameSent true) sendingState).link.ackMiss = 0 ∧
    (after .linkAlone sendingState).faults.records = [⟨.linkAlone, 0, 0, 1, true⟩] := by decide

/-- R158: past 50 ms. -/
theorem test_promotion :
    (after .statePromotion { cab with link := { cab.link with
      queue := [{ newEntry .state 8 [] with time := 51 }] } }).link.queue.map (·.cls) = [1] := by decide

/-- R161: section 1, role STEER, mode STOP is byte 0x62; load 950 and no supply reading give nine bytes. -/
theorem test_state_timer :
    (after .stateTimer { (inMode axle3 .stop .standstill) with levelling := { axle3.levelling with load := 950 } }).link.queue.map (·.payload)
      = [[0x62, 0x03, 0xB6, 0, 0, 0, 0, 0, 0]] := by decide

/-- R172. -/
theorem test_seconds :
    (after .secondsTick { cab with faults := { seconds := 7, millis := 1000 } }).faults.seconds = 8 := by decide

/-- R149: six bits of one level are followed by one of the other. -/
theorem test_bit_insertion :
    insertBits false 1 [false, false, false, false, false, false] = [false, false, false, false, false, true, false] := by
  decide

/-! ## Service -/

/-- From the tool, station 6, to station 1. -/
def tool : Address := ⟨6, .station 1⟩

/-- Worked sequence "calibrating a station in PARK": the trims become 3 and −4. -/
theorem test_calibrate :
    (after (.calibrateHeight tool []) { (inMode axle2 .park .standstill) with levelling := { axle2.levelling with
      corners := ⟨{ height := { value := some 3 } }, { height := { value := some (-4) } }⟩ } }).link.queue.map (·.payload)
      = [[4, 0, 3, 0xFC]] := by decide

/-- R174, R177: the answers to COIL_SWEEP and RESTART outside PARK, to RESTART in PARK, and to an unknown code. -/
theorem test_other_requests :
    (after (.coilSweep tool []) axle2).link.queue.map (·.payload) = [[5, 1]] ∧
    (after (.restart tool []) axle2).link.queue.map (·.payload) = [[6, 1]] ∧
    (after (.restart tool []) (inMode axle2 .park .standstill)).service.restartArmed = true ∧
    (after (.unknownRequest tool [77]) axle2).link.queue.map (·.payload) = [[77, 4]] ∧
    (after (.coilSweep tool []) (inMode axle2 .park .standstill)).service.slot = .waiting := by decide

/-- R175: an active PEER_LOST for station 3, seen at 7 s and counted twice; CLEAR_FAULTS keeps it. -/
theorem test_faults_read_and_cleared :
    (after (.readFaults tool [0]) { axle2 with faults := { records := [⟨.peerLost, 3, 7, 2, true⟩] } }).link.queue.map (·.payload)
      = [[2, 0, 5, 3, 0, 7, 2, 3, 0, 0, 0, 0, 0, 0]] ∧
    (after (.clearFaults tool []) { axle2 with faults := { records := [⟨.peerLost, 3, 7, 2, true⟩, ⟨.coilFail, 0, 1, 1, false⟩] } }).faults.records
      = [⟨.peerLost, 3, 7, 2, true⟩] := by decide

/-- R175, R1: page 0 of the mode ladder in STOP at standstill with a full still timer; the target DRIVE and the timers
as they stand. -/
theorem test_snapshot :
    (after (.snapshot tool [0]) { axle2 with ladder := { mode := .stop, target := .drive, qualifier := .standstill, stillTimer := 500 } }).link.queue.map (·.payload)
      = [[1, 0, 2, 3, 0, 0x01, 0xF4, 0, 0, 0, 0, 0, 0, 0]] := by decide +kernel

/-! ## The periods and requests, at the boundaries of their clauses -/

/-- Station 2 in DRIVE, the steered axle one path step behind the leading one and the joint two. -/
def short : State :=
  inMode (station 2 { bus with role := .steer, axleOffset := 1, joint := some 0, jointOffset := 2, jointLever := 3300, lever := 4200 })
    .drive .moving

/-- `s` with this path queue. -/
def onPath (s : State) (queue : List Sample) : State := { s with tracker := { s.tracker with queue } }

/-- A path of three entries, ready for `short`. -/
def path3 : List Sample := [⟨65534, 298, false⟩, ⟨65535, 298, true⟩, ⟨0, 310, false⟩]

/-- TRACE (0, 310) after 65534: one entry filled in, then the queue is ready. -/
def arrived (s : State) : State := after (.traceFrame (toAll 0) [0, 0, 1, 54]) (onPath s [⟨65534, 298, false⟩])

/-- R44, R47, R57, R65: κ 298 gives the angle 717 at the axle and 563 at the joint; on an empty queue the path is short and
nothing follows it. -/
theorem test_arrival :
    let t := arrived { short with steering := { short.steering with state := .follow } }
    t.tracker.queue = path3 ∧ t.tracker.filled = 1 ∧ t.steering.dp = 717 ∧ t.joint.phiE = some 563 ∧
    (let u := after (.traceFrame (toAll 0) [0, 0, 1, 54]) short;
      u.tracker.queue = [⟨0, 310, false⟩] ∧ u.joint = short.joint) := by decide

/-- The joint record after the arrival. -/
def compared (j : Joint) : Joint := (arrived { short with joint := j }).joint

/-- R66, R67 at an arrival, with a threshold of 600: mismatches of 600 and 601, then of 300 and 299; an INVALID sensor is
not compared. -/
theorem test_comparisons :
    (compared { angle := { value := some 1163 }, mismatch := 4 }).mismatch = 0 ∧
    (compared { angle := { value := some 1164 }, mismatch := 3 }).mismatch = 4 ∧
    (compared { angle := { value := some 1164 }, mismatch := 4 }).jackknife = true ∧
    (compared { angle := { value := some 863 }, jackknife := true, clear := 19 }).clear = 0 ∧
    (compared { angle := { value := some 862 }, jackknife := true, clear := 18 }).clear = 19 ∧
    (compared { angle := { value := some 862 }, jackknife := true, clear := 19 }).jackknife = false ∧
    (compared { angle := { valid := false }, mismatch := 4 }) = { angle := { valid := false }, mismatch := 4, phiE := some 563 } := by
  decide +kernel

/-- TraceFrameActsOnItsGap: the path that these arrivals meet is sound. -/
theorem witness_path : (onPath short path3).tracker.PathOk ∧ (onPath short path3).depthNeeded = 3 :=
  ⟨⟨by decide, by decide, by decide, by decide⟩, by decide⟩

/-- The steering record after a period on the path, from record `st`. -/
def steered (s : State) (st : Steering) (v : Microvolt) : Steering :=
  (after (.steeringPeriod v) { (onPath s path3) with steering := st }).steering

/-- Following a command of 331 cd. -/
def off : Steering := { state := .follow, dp := 331, command := 331 }

/-- R53, R55, R56, R60, R61: HOME to FOLLOW; reverse ends FOLLOW; a PINNED axle stays; the coil comes before the sensor;
300 and 301 cd off the command, for the 19th and the 20th time; a RUNNING sweep. -/
theorem test_steering_edges :
    let t := steered short {} 2500000
    (t.state = .follow ∧ t.dp = 717 ∧ t.command = 30 ∧ t.lockOn = true ∧ t.actP = true ∧ t.actN = false) ∧
    (steered (withDemand short { rev := true }) { state := .follow, dp := 717 } 2500000).state = .home ∧
    (steered short { state := .pinned, cause := .sensor, dp := 9 } 2500000).cause = .sensor ∧
    (steered { short with startUp := { short.startUp with coils := short.startUp.coils.set 9 .fail } } {} 0).cause = .coil ∧
    (steered short {} 0).cause = .sensor ∧
    (steered short { off with tracking := 19 } 2510334).tracking = 0 ∧
    (steered short { off with tracking := 18 } 2510000).tracking = 19 ∧
    (steered short { off with tracking := 19 } 2510000).cause = .tracking ∧
    (let u := steered { short with startUp := { short.startUp with sweep := { state := .running } } } { off with tracking := 19 } 2510000;
      u.tracking = 0 ∧ u.lockOn = false ∧ u.actN = false) := by decide +kernel

/-- The cab station after a brake period with these pedals. -/
def pressed (ped : Pedals) : State := after (.brakePeriod quiet ped) (braking cab 720 0)

/-- R76, R77: channels 50 and 51 apart, one out of range, both out of range; d_max is 650. -/
theorem test_pedals :
    (pressed ⟨700000, 500000⟩).brake.mismatch0 = false ∧
    (let t := pressed ⟨704000, 500000⟩; t.brake.d = 33 ∧ t.brake.mismatch0 = true ∧ t.faults.records = [⟨.pedalMismatch, 0, 0, 1, true⟩]) ∧
    (let t := pressed ⟨0, 4500000⟩; t.brake.d = 650 ∧ t.brake.dValid = true ∧ t.faults.records = [⟨.pedalMismatch, 1, 0, 1, true⟩]) ∧
    (pressed ⟨4500000, 0⟩).brake.d = 650 ∧
    (let t := pressed ⟨0, 0⟩; t.brake.d = 0 ∧ t.brake.dValid = false ∧
      t.faults.records = [⟨.pedalMismatch, 1, 0, 1, true⟩, ⟨.pedalMismatch, 2, 0, 1, true⟩]) := by decide +kernel

/-- The brake block after a period with a left target of 100 and this left chamber. -/
def braked (s : State) (v : Microvolt) : Brake :=
  (after (.brakePeriod ⟨v, 500000⟩ ⟨0, 0⟩) { (braking s 1050 0) with
    slip := { s.slip with wheels := ⟨{ target := 100 }, {}⟩ } }).brake

/-- R80 to R82, R90: chambers 10 and 11 kPa off a target of 100; a sensor out of range; a coil that failed; a sweep. -/
theorem test_modulators :
    (braked axle3 800000).position.left = .hold ∧ (braked axle3 796667).position.left = .admitAir ∧
    (braked axle3 866667).position.left = .hold ∧ (braked axle3 870000).position.left = .vent ∧
    (braked axle3 0).cause.left = .sensor ∧ (braked axle3 800000).driving = true ∧
    (braked { axle3 with startUp := { axle3.startUp with coils := axle3.startUp.coils.set 0 .fail } } 0).cause.left = .coil ∧
    (let b := braked { axle3 with startUp := { axle3.startUp with sweep := { state := .running } } } 796667;
      b.driving = false ∧ b.position.left = .openToDriver) := by decide +kernel

/-- Station 1 in a running window of 5 slices, with so many used. -/
def windowed (m : Mode) (used : Nat) : State :=
  { (inMode axle2 m .standstill) with
    levelling := { axle2.levelling with band := some .abundant, started := true, limit := 5, share := 5, used } }

/-- Levelling after a period with these heights and this supply, and 420 kPa in both bellows. -/
def levelled (s : State) (l r air : Microvolt) : Levelling :=
  (after (.levellingPeriod ⟨⟨l, r⟩, ⟨2180000, 2180000⟩, air⟩) s).levelling

/-- R115 to R117, R123, R126: raw heights of −5 and −6 with a deadband of 5; of two corners that call, the last slice goes
to the greater error, or to the kerb corner, which is the right one; SCARCE starves but for RAISE. -/
theorem test_corners :
    ((levelled (windowed .stop 0) 2433334 2500000 3500000).corners.left.valve = .closed ∧
      (levelled (windowed .stop 0) 2420000 2500000 3500000).corners.left.valve = .fill) ∧
    (let t := levelled (windowed .stop 4) 2420000 2420000 3500000;
      t.corners.right.valve = .fill ∧ t.corners.left.valve = .closed ∧ t.corners.left.starved = true ∧ t.used = 5) ∧
    (let t := levelled (windowed .stop 4) 2400000 2420000 3500000;
      t.corners.left.valve = .fill ∧ t.corners.right.starved = true) ∧
    (let t := levelled (windowed .stop 0) 2420000 2500000 1500000;
      t.band = some .scarce ∧ t.corners.left.starved = true ∧ t.filling = false) ∧
    (levelled { (windowed .raise 0) with levelling := { (windowed .raise 0).levelling with n := 1 } } 2420000 2500000 1500000).corners.left.valve
      = .fill ∧
    (levelled (windowed .park 0) 2420000 2500000 3500000).corners.left.valve = .closed := by decide +kernel

/-- In DRIVE, the left corner so many periods out of band. -/
def out (n : Nat) : State :=
  { (windowed .drive 0) with levelling := { (windowed .drive 0).levelling with corners := ⟨{ outBand := n }, {}⟩ } }

/-- R123: each limit of the supply value, and the hysteresis about it. -/
theorem test_bands :
    bandAfter none none = .scarce ∧ bandAfter (some .limited) (some 699) = .scarce ∧ bandAfter none (some 700) = .limited ∧
    bandAfter (some .scarce) (some 729) = .scarce ∧ bandAfter (some .scarce) (some 730) = .limited ∧
    bandAfter (some .abundant) (some 870) = .abundant ∧ bandAfter (some .abundant) (some 869) = .limited ∧
    bandAfter none (some 899) = .limited ∧ bandAfter (some .scarce) (some 900) = .abundant := by decide

/-- R115: in DRIVE the corner waits for the 200th period out of band; R119: the load while both valves stay CLOSED; a
coil that failed holds the corner; R124: the 100th period begins a window. -/
theorem test_corner_waits :
    (levelled (out 198) 2420000 2500000 3500000).corners.left.valve = .closed ∧ (levelled (out 199) 2420000 2500000 3500000).corners.left.valve = .fill ∧
    (levelled (windowed .stop 0) 2500000 2500000 3500000).load = 1100 ∧ (levelled (windowed .stop 0) 2420000 2500000 3500000).load = 0 ∧
    (let s := windowed .stop 0;
      (levelled { s with startUp := { s.startUp with coils := s.startUp.coils.set 4 .fail } } 2420000 2500000 3500000).corners.left.valve = .closed) ∧
    (let s := { (windowed .stop 5) with levelling := { (windowed .stop 5).levelling with elapsed := 99 } };
      s.windowFalls = true ∧ (levelled s 2500000 2500000 3500000).allowance = 800 ∧ (levelled s 2500000 2500000 3500000).used = 0) ∧
    (windowed .stop 5).windowFalls = false := by decide +kernel

/-- The allowance of the window that follows `l`. -/
def allowed (l : Levelling) : Nat :=
  (after .airWindowStart { axle2 with levelling := { l with elapsed := 99, started := true } }).levelling.allowance

/-- The same in LIMITED, after an allowance `a`, from supply `b` to supply `v`. -/
def hunt (a b v : Nat) : Nat := allowed { band := some .limited, allowance := a, windowSupply := some b, supplyValue := some v }

/-- R124: the allowance at each entry of LIMITED; then a change of 10 and of 11 kPa, within 24 to 120. -/
theorem test_allowances :
    allowed { band := some .limited, limitedNew := true, limitedFrom := some .abundant } = 120 ∧
    allowed { band := some .limited, limitedNew := true, limitedFrom := some .scarce } = 24 ∧
    allowed { band := some .limited, limitedNew := true, limitedFrom := some .startUp } = 60 ∧
    hunt 60 850 840 = 60 ∧ hunt 60 850 839 = 48 ∧ hunt 60 850 860 = 60 ∧ hunt 60 850 861 = 72 ∧
    hunt 30 850 839 = 24 ∧ hunt 115 850 861 = 120 ∧ allowed { band := some .scarce } = 16 ∧ allowed { band := some .abundant } = 800 := by
  decide +kernel

/-- R115 and log entry 1: past the 200th period OUT_OF_BAND_LIMIT changes nothing. -/
theorem test_out_of_band_once :
    let s := { (inMode axle2 .drive .moving) with levelling := { axle2.levelling with
      corners := ⟨{ err := some (-6), outBand := 200 }, {}⟩ } }
    after (.outOfBandLimit .left) s = s := by decide

/-- Closed and locked inputs of a door that stands ajar, and of one that is shut but not bolted. -/
def ajar : SlotInputs := ⟨false, false, false, false⟩
def unbolted : SlotInputs := ⟨true, false, false, false⟩

/-- State, phase and timer of slot 1 after a period, from record `e` with these inputs and this release bit. -/
def moved (e : Entrance) (i : SlotInputs) (bit : Bool) : Option (EntranceState × Phase × Nat) :=
  ((after (.entrancePeriod ⟨shut, i⟩) (doors e bit)).entrance .one).map fun e => (e.state, e.phase, e.timer)

/-- R133 to R139, an entrance in each state at each of its edges, and next to the limit of each timer. -/
theorem test_moves :
    ∀ row ∈ ([
      ({ state := .opened }, ⟨false, true, false, false⟩, true, (.fault, .none, 0)),
      ({ state := .locked }, unbolted, true, (.breach, .none, 0)),
      ({ state := .locked }, shut, false, (.locked, .none, 0)),
      ({ state := .released, phase := .held }, ⟨true, false, false, true⟩, true, (.opened, .none, 0)),
      ({ state := .released, phase := .held }, unbolted, true, (.released, .held, 0)),
      ({ state := .released, phase := .held }, unbolted, false, (.released, .relocking, 0)),
      ({ state := .released, phase := .relocking, timer := 500 }, unbolted, true, (.released, .held, 0)),
      ({ state := .released, phase := .relocking, timer := 500 }, shut, false, (.locked, .none, 500)),
      ({ state := .released, phase := .relocking, timer := 500 }, ajar, false, (.opened, .none, 500)),
      ({ state := .released, phase := .relocking, timer := 980 }, unbolted, false, (.released, .relocking, 990)),
      ({ state := .released, phase := .relocking, timer := 990 }, unbolted, false, (.fault, .none, 0)),
      ({ state := .opened, reversals := 2 }, ajar, false, (.closing, .driving, 0)),
      ({ state := .opened, reversals := 3 }, ajar, false, (.opened, .none, 0)),
      ({ state := .closing, phase := .driving, timer := 40 }, ajar, true, (.opened, .none, 40)),
      ({ state := .closing, phase := .driving, timer := 40 }, shut, false, (.closing, .latching, 0)),
      ({ state := .closing, phase := .driving, timer := 7980 }, ajar, false, (.closing, .driving, 7990)),
      ({ state := .closing, phase := .driving, timer := 7990 }, ajar, false, (.fault, .none, 0)),
      ({ state := .closing, phase := .latching, timer := 40 }, shut, false, (.locked, .none, 40)),
      ({ state := .closing, phase := .latching, timer := 40, saved := 700 }, ajar, false, (.closing, .driving, 700)),
      ({ state := .closing, phase := .latching, timer := 980 }, unbolted, false, (.closing, .latching, 990)),
      ({ state := .closing, phase := .latching, timer := 990 }, unbolted, false, (.fault, .none, 0)),
      ({ state := .obstructed, timer := 980, reversals := 2 }, ajar, false, (.obstructed, .none, 990)),
      ({ state := .obstructed, timer := 990, reversals := 2 }, ajar, false, (.closing, .driving, 0)),
      ({ state := .obstructed, timer := 990, reversals := 3 }, ajar, false, (.opened, .none, 1000)),
      ({ state := .breach }, shut, false, (.locked, .none, 0)),
      ({ state := .fault }, unbolted, false, (.fault, .none, 0))] : List (Entrance × SlotInputs × Bool × EntranceState × Phase × Nat)),
      moved row.1 row.2.1 row.2.2.1 = some row.2.2.2 := by decide +kernel

/-- Slot 1's state after a period with both slots shut and bolted. -/
def lock (s : State) : Option EntranceState := ((after (.entrancePeriod ⟨shut, shut⟩) s).entrance .one).map (·.state)

/-- Slot 1 found unbolted at speed `v`. -/
def unlatched (v : Nat) : State :=
  after (.entrancePeriod ⟨shut, unbolted⟩) { (doors { state := .locked } false) with
    slip := { axle2.slip with wheels := ⟨{ speed := v }, { speed := v }⟩ } }

/-- R134: no release without the confirmed stop brake, nor while a sweep is RUNNING; R139: at a speed of 51 a BREACH queues
its alert, at 50 it queues none. -/
theorem test_release_barred_and_breach :
    let s := doors { state := .locked } true
    lock { s with brake := { s.brake with confirmed := false } } = some .locked ∧
    lock { s with
      startUp := { s.startUp with sweep := { state := .running } }
      ladder := { s.ladder with mode := .park } } = some .locked ∧
    (unlatched 51).link.queue.map (·.payload) = [[5, 3]] ∧ (unlatched 50).link.queue = [] := by decide +kernel

/-- The interlock after a DEMAND computation with no switch set. -/
def computed (s : State) : Interlock := (after (.demandComputation ⟨false, false, false, false, false, false⟩) s).interlock

/-- R144 to R146: the lines while all is well, with a limit set, and with an entrance of the station not locked; a run
before its time does nothing. -/
theorem test_cab_lines :
    let s := { (withPeers cab 0) with interlock := { ready := true, entLocked := true } }
    ((computed s).driveFlag = true ∧ (computed s).traction = true ∧ (computed s).warning = false ∧ (computed s).entranceLine = false) ∧
    (computed { s with joint := { s.joint with limit := true } }).warning = true ∧
    (computed { s with interlock := { ready := true } }).entranceLine = true ∧
    (let w := { s with interlock := { ready := true, demandTimer := 1 } }; computed w = w.interlock) := by decide +kernel

/-- R156, R154, R150: a DEMAND in flight with a newer one held aside. -/
def heldState : State :=
  { axle3 with link := { axle3.link with
      queue := [{ newEntry .demand 8 [1] with inFlight := true }]
      held := some (newEntry .demand 8 [2]) } }

/-- The held frame's payload takes the place after a lost arbitration, and the frame joins after the entry is sent. -/
theorem test_held_frame :
    (after .arbitrationLost heldState).link.queue = [newEntry .demand 8 [2]] ∧
    (after (.frameSent true) heldState).link.queue = [newEntry .demand 8 [2]] ∧
    (after .arbitrationLost { heldState with link := { heldState.link with listenOnly := true, held := none } }).link.queue = [] := by
  decide

/-- R174: a reply that has left frees the slot; a reply that waited joins. -/
theorem test_reply_sent :
    let s := { axle2 with
      link := { axle2.link with queue := [{ newEntry .serviceReply 6 [1, 0] with inFlight := true }] }
      service := { axle2.service with slot := .queued } }
    (after (.frameSent true) s).service.slot = .free ∧
    (let t := after (.frameSent true) { s with service := { s.service with heldReply := some ⟨6, [5, 0]⟩ } };
      t.service.slot = .queued ∧ t.link.queue.map (·.payload) = [[5, 0]]) := by decide

/-- R161, R173: READY and ENT_LOCKED make byte 7 06; an active PEER_LOST and an inactive COIL_FAIL make byte 8 04; a deficit
of 400 N is 40. -/
theorem test_state_payload :
    ({ (inMode axle3 .stop .standstill) with
      levelling := { axle3.levelling with load := 950 }
      brake := { axle3.brake with deficit := 400 }
      interlock := { axle3.interlock with ready := true, entLocked := true }
      faults := { records := [⟨.peerLost, 3, 0, 1, true⟩, ⟨.coilFail, 0, 0, 1, false⟩] } } : State).statePayload
      = [0x62, 0x03, 0xB6, 0, 0, 0, 40, 0x06, 0x04] := by decide

/-- The payloads queued after command `c`. -/
def replies (s : State) (c : Instr) : List (List Byte) := (after c s).link.queue.map (·.payload)

/-- R174 to R177: RANGE, MODE and BUSY. -/
theorem test_refusals :
    let park := inMode axle2 .park .standstill
    let busy := inMode { axle2 with startUp := { axle2.startUp with sweep := { state := .running } } } .park .standstill
    replies axle2 (.snapshot tool []) = [[1, 3]] ∧ replies axle2 (.snapshot tool [4]) = [[1, 3]] ∧ replies axle2 (.snapshot tool [3, 12]) = [[1, 3]] ∧
    replies axle2 (.readFaults tool [16]) = [[2, 3]] ∧ replies axle2 (.clearFaults tool [0]) = [[3, 3]] ∧
    replies park (.calibrateHeight tool [0]) = [[4, 3]] ∧ replies busy (.calibrateHeight tool []) = [[4, 2]] ∧
    replies { park with levelling := { park.levelling with corners := ⟨{ height := { valid := false } }, {}⟩ } } (.calibrateHeight tool [])
      = [[4, 1]] ∧
    replies park (.coilSweep tool [0]) = [[5, 3]] ∧ replies busy (.coilSweep tool []) = [[5, 2]] ∧
    replies (inMode axle2 .park .moving) (.coilSweep tool []) = [[5, 1]] ∧ replies park (.restart tool [0]) = [[6, 3]] ∧
    replies busy (.restart tool []) = [[6, 2]] := by decide

/-- R175: a later page with no capture held takes one; R177: a sweep that ends is answered, or its reply waits for the
slot. -/
theorem test_late_replies :
    let s := { (inMode (swept { step := 31, coil := 8 }) .park .standstill) with
      service := { slot := .waiting, sweepFor := some 6 } }
    (after (.snapshot tool [1]) axle2).service.capture.isSome = true ∧
    (after (.sweepStep false) s).link.queue.map (fun e => (e.dest, e.payload)) = [(6, [5, 0, 0, 0, 0, 0, 0, 0, 0, 0, 1])] ∧
    (after (.sweepStep false) { s with service := { s.service with slot := .queued } }).service.heldReply
      = some ⟨6, [5, 0, 0, 0, 0, 0, 0, 0, 0, 0, 1]⟩ := by decide +kernel

/-- R55, R61, R82, R117, R169 and log entry 31: a sweep that starts turns the bridge and the coils of the blocks off, and
one that is aborted leaves them off until each block's next period; a SNAPSHOT still shows the valve as it stood at its last
period (R129). -/
theorem test_sweep_takes_the_drives :
    let s := { (inMode axle3 .park .standstill) with
      brake := { axle3.brake with driving := true, position := ⟨.vent, .hold⟩ }
      levelling := { axle3.levelling with corners := ⟨{ valve := .fill, valveSeen := .fill }, {}⟩ }
      steering := { axle3.steering with state := .follow, lockOn := true, actP := true, tracking := 3 } }
    let t := after (.coilSweep ⟨6, .station 2⟩ []) s
    let u := after (.sweepStep false) { t with ladder := { t.ladder with qualifier := .moving } }
    (t.sweeping = true ∧ t.steering.actP = false ∧ t.steering.tracking = 0 ∧ t.levelling.corners.left.valve = .closed ∧
      t.levelling.corners.left.valveSeen = .fill) ∧
    (u.startUp.sweep.state = .aborted ∧ ∀ i, i < 10 → u.coilOn i = false) := by decide +kernel

/-! ## Witnesses: states that meet the hypotheses of the statements -/

/-- StepRunsFrontCommand. -/
theorem witness_front_command : ({ cab with pending := [.linkIdle, .ladderPeriod] } : State).pending = .linkIdle :: [.ladderPeriod] := rfl

/-- EmptyQueueLetsTimePass: nothing due, and something due. -/
theorem witness_empty_queue :
    (State.reset.pending = [] ∧ State.reset.dueNow = []) ∧
    (let s := { State.reset with faults := { millis := 1000 } }; s.pending = [] ∧ s.dueNow ≠ []) := by decide

/-- BothResetsRestoreTheState, SecondsAreCounted, LadderPeriodSetsQualifierAndTarget: a restart that is due, one that is
not armed, one whose slot is not FREE. -/
theorem witness_restart :
    (let s := { cab with service := { cab.service with restartArmed := true } };
      s.service.restartArmed = true ∧ s.service.slot = .free) ∧
    cab.service.restartArmed = false ∧
    ({ cab with service := { cab.service with slot := .queued, restartArmed := true } } : State).service.slot ≠ .free := by decide

/-- ImageIsHeldOrReplaced: a good image, one that fails, on an empty queue; an image already held; a read before any reset
has read the straps. -/
theorem witness_image :
    (let s := { State.reset with startUp := { State.reset.startUp with strap := some 2 } };
      s.startUp.strap = some 2 ∧ s.startUp.status = .notLoaded ∧ s.link.queue = [] ∧ s.link.listenOnly = false) ∧
    imageFault 2 goodImage = none ∧ imageFault 4 goodImage = some 3 ∧
    cab.startUp.strap = some 0 ∧ cab.startUp.status ≠ .notLoaded ∧
    (State.reset.startUp.strap = none ∧ strapNumber State.reset.startUp.pins = 0 ∧ imageFault 0 [] = some 255) := by
  decide +kernel

/-- Station 0 in START at standstill, undecided. -/
def choosing : State :=
  { (inMode cab .start .standstill) with startUp := { cab.startUp with decided := false, done := false } }

/-- StartUpSweepsOrSkips: a sweep from coil 0, and a skip while the bus moves. -/
theorem witness_choice :
    (choosing.startUp.status = .good ∧ choosing.ladder.mode = .start ∧ choosing.startUp.decided = false ∧
      choosing.startUp.done = false ∧ choosing.ladder.qualifier ≠ .settling ∧ choosing.sweepMayRun = true ∧
      0 < choosing.coilCount ∧ choosing.coilFailed 0 = false) ∧
    (let s := inMode choosing .start .moving;
      s.startUp.status = .good ∧ s.ladder.mode = .start ∧ s.startUp.decided = false ∧ s.startUp.done = false ∧
        s.ladder.qualifier ≠ .settling ∧ s.sweepMayRun = false) := by decide

/-- SweepStepShiftsRegisters at step 30, LastSweepStepMarksCoil at step 31 with equal and unequal signatures, with a
next coil and with none (coil 8 of a station that is not a STEER). -/
theorem witness_sweep_steps :
    (let s := swept { step := 30 }; s.sweeping = true ∧ s.sweepMayRun = true ∧ s.startUp.sweep.step < 31) ∧
    (let s := swept { step := 31 };
      s.sweeping = true ∧ s.sweepMayRun = true ∧ s.startUp.sweep.step = 31 ∧ s.startUp.sweep.coil < s.coilCount ∧
        (s.startUp.sweep.advance false).driveSig = (s.startUp.sweep.advance false).senseSig ∧
        (s.startUp.sweep.advance true).driveSig ≠ (s.startUp.sweep.advance true).senseSig ∧
        1 < s.coilCount ∧ s.coilFailed 1 = false) ∧
    (let s := swept { step := 31, coil := 8 };
      s.sweeping = true ∧ s.sweepMayRun = true ∧ s.startUp.sweep.step = 31 ∧ s.startUp.sweep.coil < s.coilCount ∧
        ¬(9 < s.coilCount) ∧ ∀ j, 8 < j → j < s.coilCount → s.coilFailed j = true) ∧
    (let s := swept { coil := 4, pattern := 1 }; s.sweeping = true ∧ s.coilOn 4 = true ∧ s.coilOn 5 = false) := by
  refine ⟨by decide, by decide, ?_, by decide⟩
  refine ⟨by decide, by decide, by decide, by decide, by decide, fun j h8 hj => ?_⟩
  exact absurd (show j < 9 from hj) (by omega)

/-- BrokenConditionsAbortSweep: with no request pending. -/
theorem witness_broken_conditions :
    let s := inMode (swept {}) .park .moving
    s.sweeping = true ∧ s.sweepMayRun = false ∧ s.service.sweepFor = none := by decide

/-- LadderPeriodTakesOneEdge: a state with a cause of BACKUP, and one with none. -/
theorem witness_backup_causes :
    ({ axle2 with peerView := { axle2.peerView with duplicate := true } } : State).BackupCaused ∧
    ¬(withDemand (inMode axle2 .park .standstill) {}).BackupCaused := by
  refine ⟨.inr (.inl rfl), ?_⟩
  rintro (h | h | h | ⟨h, -⟩) <;> exact absurd h (by decide)

/-- LadderPeriodTakesOneEdge: a cause of BACKUP; and, with none, one state for each edge of the ladder, which is taken. -/
theorem witness_ladder :
    ({ axle2 with peerView := { axle2.peerView with duplicate := true } } : State).backupCause = true ∧
    (let s := withDemand (inMode axle2 .start .standstill) { park := true };
      s.backupCause = false ∧ (after .ladderPeriod s).ladder.mode = .park) ∧
    (after .ladderPeriod (withDemand (inMode axle2 .start .standstill) {})).ladder.mode = .stop ∧
    (after .ladderPeriod { (withDemand (inMode axle2 .start .moving) { drive := true }) with
      slip := { axle2.slip with wheels := ⟨{ speed := 6 }, { speed := 6 }⟩ } }).ladder.mode = .drive ∧
    (after .ladderPeriod (withDemand (inMode axle2 .park .standstill) {})).ladder.mode = .stop ∧
    (after .ladderPeriod (withDemand (inMode axle2 .stop .standstill) { park := true })).ladder.mode = .park ∧
    (after .ladderPeriod { (withDemand (inMode axle2 .stop .standstill) { drive := true }) with
      interlock := { axle2.interlock with ready := true } }).ladder.mode = .drive := by decide

/-- The same, for the edges of KNEEL, KNELT, RAISE, DRIVE and BACKUP. -/
theorem witness_ladder_below :
    (after .ladderPeriod { (withDemand (inMode axle2 .kneel .standstill) { kneel := true }) with
      levelling := { axle2.levelling with corners := ⟨{}, { target := -70, locked := true }⟩ } }).ladder.mode = .knelt ∧
    (after .ladderPeriod (withDemand (inMode axle2 .kneel .standstill) {})).ladder.mode = .raise ∧
    (after .ladderPeriod (withDemand (inMode axle2 .knelt .standstill) {})).ladder.mode = .raise ∧
    (after .ladderPeriod (withDemand (inMode axle2 .raise .standstill) { kneel := true })).ladder.mode = .kneel ∧
    (after .ladderPeriod { (withDemand (inMode axle2 .raise .standstill) {}) with
      levelling := { axle2.levelling with corners := ⟨{ locked := true }, { locked := true }⟩ } }).ladder.mode = .stop ∧
    (after .ladderPeriod (withDemand (inMode axle2 .drive .standstill) { stop := true })).ladder.mode = .stop ∧
    (after .ladderPeriod { (withDemand (inMode axle2 .backup .standstill) {}) with
      ladder := { mode := .backup, qualifier := .standstill, stillTimer := 500, recoveryTimer := 990 } }).ladder.mode = .stop := by
  decide

/-- LadderPeriodSetsQualifierAndTarget: speeds of 5 and 6, and the standings of the record. -/
theorem witness_qualifier :
    ({ axle2 with slip := { axle2.slip with wheels := ⟨{ speed := 5 }, { speed := 5 }⟩ } } : State).ownSpeed ≤ 5 ∧
    5 < ({ axle2 with slip := { axle2.slip with wheels := ⟨{ speed := 6 }, { speed := 6 }⟩ } } : State).ownSpeed ∧
    axle2.ladder.qualifier = .settling ∧ axle2.demandFreshness = .absent ∧ (withDemand axle2 {}).demandFreshness = .fresh := by decide

/-- LadderTimersReachTheirLimits. -/
theorem witness_ladder_timers :
    (let s := { axle2 with ladder := { axle2.ladder with stillTimer := 490 } };
      s.ownSpeed ≤ 5 ∧ 490 ≤ s.ladder.stillTimer) ∧
    (let s := { axle2 with ladder := { axle2.ladder with startupTimer := 2000 } };
      s.ladder.mode = .start ∧ 2000 ≤ s.ladder.startupTimer ∧ s.demandFreshness = .absent) ∧
    (let s := { (withDemand axle2 {}) with ladder := { axle2.ladder with mode := .backup, recoveryTimer := 990 } };
      s.ladder.mode = .backup ∧ s.demandFreshness = .fresh ∧ 990 ≤ s.ladder.recoveryTimer) := by decide

/-- ModeChangesOnlyByLadderOrReset: a period that changes the mode. -/
theorem witness_mode_change :
    let s := withDemand (inMode axle2 .park .standstill) {}
    (after .ladderPeriod s).ladder.mode ≠ s.ladder.mode := by decide

/-- Station 2 hears the cab station. -/
theorem witness_hears : axle3.Hears (toAll 0) ∧ (toAll 0).sender = axle3.cfg.cabStation :=
  ⟨⟨by decide, by decide, by decide, by decide⟩, by decide⟩

/-- The frame statements: payloads that parse, at the limits of their ranges, and payloads that do not. -/
theorem witness_payloads :
    (parseState [0x96, 0x07, 0xD0, 0x05, 0xDC, 0, 0, 0x20, 0, 0x04, 0xF6]).isSome = true ∧
    parseState [0x96, 0x07, 0xD1, 0x05, 0xDC, 0, 0, 0, 0] = none ∧
    (parseDemand [3, 32, 0x10, 0, 0]).isSome = true ∧ (parseDemand [3, 32, 0, 0, 0]).isSome = true ∧ parseDemand [3, 33, 0, 0, 0] = none ∧
    parseAlert [5, 15] = some (.entranceBreach, 15) ∧ parseAlert [5, 16] = none := by decide

/-- The same payloads in the statements' terms: a STATE of eleven bytes at the limits, one whose load is past its own. -/
theorem witness_state_payloads :
    StateGood [0x96, 0x07, 0xD0, 0x05, 0xDC, 0, 0, 0x20, 0, 0x04, 0xF6] ∧ ¬StateGood [0x96, 0x07, 0xD1, 0x05, 0xDC, 0, 0, 0, 0] :=
  ⟨⟨by decide, by decide, by decide, by decide, by decide, by decide⟩, fun h => absurd h.load (by decide)⟩

/-- An ALERT at the greatest qualifier of its code, and one past it; a DEMAND of 800 and one of 801. -/
theorem witness_alert_payloads :
    AlertCarries [5, 15] .entranceBreach 15 ∧ (∀ code q, ¬AlertCarries [5, 16] code q) ∧
    (([3, 32, 0, 0, 0] : List Byte).length = 5 ∧ pairAt [3, 32, 0, 0, 0] 0 ≤ 800 ∧ 800 < pairAt [3, 33, 0, 0, 0] 0) := by
  refine ⟨⟨by decide, by decide, by decide, by decide, by decide⟩, fun code q h => ?_, by decide⟩
  obtain rfl : AlertCode.entranceBreach = code := Option.some.inj h.coded.2
  have hq : (16 : Nat) = q.toNat := h.qualifier
  exact absurd (h.entrance rfl) (by omega)

/-- AlertFrameRefreshesSet: an entry that matches, and a full set with no match. -/
theorem witness_alert_sets :
    (∃ a ∈ ([⟨.jackknife, 0, 2, 5⟩] : List AlertEntry), a.code = .jackknife ∧ a.qualifier = 0 ∧ a.sender = 2) ∧
    (let l := (List.range 16).map fun q => (⟨.brakeDegraded, BitVec.ofNat 8 q, 2, q⟩ : AlertEntry);
      16 ≤ l.length ∧ ∀ a ∈ l, ¬(a.code = .jackknife ∧ a.qualifier = 0 ∧ a.sender = 2)) := by decide

/-- TraceFrameActsOnItsGap and EighthIgnoredArrivalBreaksPath: gaps of 1, 8, 9 and 0, and the two that wrap; runs of 6
and 7. -/
theorem witness_gaps :
    gapOf 1 0 = 1 ∧ gapOf 8 0 = 8 ∧ gapOf 9 0 = 9 ∧ gapOf 7 7 = 0 ∧ gapOf 3 65534 = 5 ∧ gapOf 65535 0 = -1 ∧
    axle3.hasPath = true ∧ axle3.ladder.mode ≠ .backup ∧ axle3.demand.rev = false ∧
    (let s := { axle3 with tracker := { axle3.tracker with queue := [⟨1000, 0, false⟩], rejectionRun := 7 } };
      s.tracker.rejectionRun = 7 ∧ s.tracker.queue.getLast? = some ⟨1000, 0, false⟩ ∧ gapOf 5 1000 ≤ 0) ∧
    (withDemand axle3 { rev := true }).demand.rev = true ∧ (inMode axle3 .backup .moving).ladder.mode = .backup := by decide

/-- ScreeningSetsFramesAside: the own number, a stranger, a DEMAND of another station, a frame for another. -/
theorem witness_screening :
    (toAll 1).sender = axle2.own ∧ (toAll 6).sender ≠ axle2.own ∧ axle2.present (toAll 6).sender = false ∧
    axle2.present (toAll 3).sender = true ∧ axle2.forUs (toAll 3).dest = true ∧ (toAll 3).sender ≠ axle2.cfg.cabStation ∧
    axle2.forUs (.station 2) = false ∧ headGood ⟨4, 0, true, 0, 8⟩ = false := by decide

/-- PeerEntryPassesItsLimits and DemandRecordPassesItsLimits, at the first age past each limit. -/
theorem witness_limits :
    axle2.isPeer 3 = true ∧ axle2.loaded = true ∧ axle2.demandFreshness = .absent ∧ axle2.peerView.demand.limitReported = false ∧
    ((axle2.peer 3).freshness = .absent ∧ (axle2.peer 3).limitReported = false) ∧
    (let p := { freshPeer (heard 2 950 0) with age := 61 }; p.freshness = .fresh ∧ 60 < p.age) ∧
    (let p := { freshPeer (heard 2 950 0) with age := 201 }; p.freshness = .fresh ∧ 200 < p.age) := by decide

/-- WheelPulseIsCounted and PathStepTakesASample: a pulse short of the step, the one that completes it, one under the
reverse flag, readings in and out of range. -/
theorem witness_pulses :
    cab.isCab = true ∧ axle3.isCab = false ∧ cab.demand.rev = false ∧ (withDemand cab { rev := true }).demand.rev = true ∧
    2 + 1 < 2 * cab.cfg.pulsesPerStep ∧ 2 * cab.cfg.pulsesPerStep ≤ 3 + 1 ∧
    steerReading 500000 = none ∧ steerReading 2500000 = some 0 ∧ cab.link.queue.length < 8 ∧ countKind .trace cab.link.queue < 4 := by
  decide

/-- TrackerPeriodEmptiesQueueInBackup. -/
theorem witness_tracker :
    let s := { (inMode axle3 .backup .moving) with tracker := { axle3.tracker with queue := [⟨7, 0, false⟩] } }
    s.ladder.mode = .backup ∧ s.tracker.queue ≠ [] ∧ s.hasPath = true := by decide

/-- SteeringPeriodRampsCommand, TrackingFaultPinsTheAxle. -/
theorem witness_steering :
    axle3.hasSteering = true ∧ axle3.coilFailed 9 = false ∧ axle3.steering.state ≠ .pinned ∧ axle3.sweeping = false ∧
    (let t : Steering := { state := .follow, command := 301, measured := some 0, tracking := 19 };
      t.state ≠ .pinned ∧ t.measured = some 0 ∧ 300 < (t.command - 0).natAbs ∧ t.tracking = 19) := by decide

/-- AlertsAreRepeatedAndQueued: the conditions hold in the states of `test_alert_repeats`; a listen-only station, and
one with room and no such alert. -/
theorem witness_alerts :
    ({ axle3 with link := { axle3.link with listenOnly := true } } : State).link.listenOnly = true ∧
    axle3.link.listenOnly = false ∧ axle3.link.queue.length < 8 ∧ axle3.joint.jackknife = false := by decide

/-- JointPeriodReadsAndTestsLimit, JackknifeIsSetAndCleared: readings out of and in range, an INVALID sensor counting,
mismatches next to the threshold and to half of it. -/
theorem witness_joint :
    axle3.hasJoint = true ∧ axle3.joint.angle.valid = true ∧ jointReading 499999 = none ∧ jointReading 500000 = some (-6000) ∧
    ({ valid := false, recovery := 8 } : Sensor Int).recovery < 9 ∧ axle3.cfg.jackThreshold < 601 ∧
    299 < axle3.cfg.jackThreshold / 2 := by decide

/-- SensorsRecoverAtTheTenthReading: readings at the ends of the range. -/
theorem witness_readings :
    chamberReading 500000 = some 0 ∧ chamberReading 4500000 = some 1200 ∧ heightReading 4500000 = some 150 ∧
    bellowsReading 4500000 = some 1000 ∧ supplyReading 4500000 = some 1270 ∧ supplyReading 4500001 = none ∧
    axle3.loaded = true ∧ axle3.cfg.supplyFitted = true := by decide

/-- BrakePeriodSharesTheDemand: ELECTRIC with a sum above 0 (as `test_base_share` computes it), and PASSTHROUGH. -/
theorem witness_braking :
    (let s := braking cab 720 0;
      s.loaded = true ∧ s.ladder.mode ≠ .backup ∧ s.demandFreshness ≠ .lost ∧ s.demand.dValid = true ∧
        0 < s.weightSum ∧ 0 < s.cfg.forcePerKpa) ∧ cab.demand.dValid = false := by decide +kernel

/-- SlipPeriodActsOnEachWheel: a wheel that acts, with the reference that a FRESH peer holds at 300, in each state and
range of slip (`test_one_wheel_on_ice` gives what it then does). -/
theorem witness_slip :
    let s := { (braking axle3 1050 0) with slip := { axle3.slip with wheels := ⟨{ state := .hold }, { state := .apply }⟩ } }
    let t := after .slipPeriod s
    s.loaded = true ∧ 30 ≤ t.slip.vref ∧ s.brake.cause.left = .none ∧ s.brake.state = .electric ∧ s.ladder.mode ≠ .backup ∧
      t.slip.wheels.left.slip = some 1000 ∧ t.slip.wheels.left.state = .dump := by decide +kernel

/-- SlipCountsReachTheirLimits. -/
theorem witness_slip_counts :
    let s := { (braking axle3 1050 0) with
      slip := { axle3.slip with vref := 296, wheels := ⟨{ state := .hold, slip := some 39, grip := 2 }, { state := .dump, slip := some 150, lock := 99 }⟩ } }
    s.loaded = true ∧ s.forcedOff .left = false ∧ s.slip.wheels.left.state = .hold ∧ s.slip.wheels.left.grip = 2 ∧
      s.slip.wheels.right.state = .dump ∧ s.slip.wheels.right.degraded = false ∧ s.slip.wheels.right.lock = 99 := by decide

/-- LevellingPeriodServesTheCorners: a corner that fills, and one that exhausts (`test_lowering_the_kerb_corner`). -/
theorem witness_levelling :
    let s := { (inMode axle2 .stop .standstill) with levelling := { axle2.levelling with band := some .abundant, started := true, limit := 5, share := 5 } }
    let t := after (.levellingPeriod ⟨⟨2400000, 2500000⟩, ⟨2180000, 2180000⟩, 3500000⟩) s
    s.loaded = true ∧ t.levelling.corners.left.valve = .fill ∧ t.levelling.filling = true := by decide +kernel

/-- AirWindowSharesTheAllowance: a window that is due, with each band. -/
theorem witness_window :
    (inMode axle2 .stop .standstill).windowDue = true ∧
    ({ axle2 with levelling := { axle2.levelling with started := true, elapsed := 99 } } : State).windowDue = true ∧
    axle2.windowDue = false := by decide

/-- LevellingCountsReachTheirLimits: errors of 5 and 6 with a deadband of 5. -/
theorem witness_levelling_counts :
    let s := inMode axle2 .drive .moving
    s.loaded = true ∧ s.cfg.deadband = 5 ∧ s.sweeping = false ∧ s.coilFailed 4 = false ∧ s.coilFailed 5 = false ∧
      ({} : Corner).height.valid = true ∧ (inMode axle2 .raise .standstill).ladder.mode = .raise := by decide

/-- EntrancePeriodRunsTheMachines and EntranceTimersExpire: a fitted slot with and without a record; each timer. -/
theorem witness_entrances :
    (let s := doors { state := .released, phase := .relocking, timer := 990 } false;
      s.loaded = true ∧ s.slotFitted .one = true ∧ s.entrance .one = some { state := .released, phase := .relocking, timer := 990 }) ∧
    (let s := station 1 { bus with fitted := ⟨true, true⟩ }; s.slotFitted .one = true ∧ s.entrance .one = none) ∧
    (let e : Entrance := { state := .obstructed, timer := 990, reversals := 2 }; e.bit = false ∧ 990 ≤ e.timer ∧ e.reversals < 3) := by decide

/-- DemandComputationFeedsTheRecord: on an empty queue. -/
theorem witness_demand : cab.isCab = true ∧ cab.interlock.demandTimer = 0 ∧ cab.link.queue = [] ∧ cab.sweeping = false := by decide

/-- LinkIdleSendsTheLowestIdentifier. -/
theorem witness_idle :
    let s := { cab with link := { cab.link with queue := [newEntry .demand 8 [], newEntry .alert 8 [1, 1]] } }
    s.link.queue ≠ [] ∧ s.link.sending = false ∧ s.link.listenOnly = false := by decide

/-- AttemptsToSendEnd: a sound queue with one entry in flight, the ack-miss counter at 15 and below. -/
theorem witness_attempt :
    (countKind .state sendingState.link.queue ≤ 1 ∧ (sendingState.link.queue.filter (fun e => e.inFlight)).length ≤ 1) ∧
    { newEntry .alert 8 [3, 0] with inFlight := true } ∈ sendingState.link.queue ∧ sendingState.link.held = none ∧
    sendingState.link.listenOnly = false ∧ sendingState.link.ackMiss = 15 := by decide

/-- The queue of `sendingState` is sound in the sense of R155 and R156. -/
theorem witness_sound_queue : sendingState.link.QueueOk where
  depth := by decide
  oneInFlight := by decide
  oneState := by decide
  oneDemand := by decide
  oneReply := by decide
  fourTraces := by decide
  alertsDiffer := by
    refine List.Pairwise.cons ?_ (List.pairwise_singleton _ _)
    intro b hb
    obtain rfl : b = newEntry .state 8 [] := by simpa using hb
    intro _ h
    exact absurd h (by decide)
  classes := by decide
  heldMatches := by intro h hh; exact absurd hh (by simp [sendingState, axle3, station])

/-- The queue of `heldState` is sound too. -/
theorem witness_held_queue : heldState.link.QueueOk where
  depth := by decide
  oneInFlight := by decide
  oneState := by decide
  oneDemand := by decide
  oneReply := by decide
  fourTraces := by decide
  alertsDiffer := List.pairwise_singleton _ _
  classes := by decide
  heldMatches := by
    intro h hh
    obtain rfl : newEntry .demand 8 [2] = h := Option.some.inj hh
    exact ⟨by decide, by decide, _, List.mem_cons_self, by decide, by decide⟩

/-- StateIsQueuedAndPromoted: an empty queue, and one STATE waiting between others. -/
theorem witness_state :
    axle3.loaded = true ∧ axle3.link.listenOnly = false ∧ axle3.link.stateTimer = 0 ∧ axle3.link.queue = [] ∧
    (let e := newEntry .state 8 []; e.kind = .state ∧ e.inFlight = false) ∧
    (∀ x ∈ [newEntry .alert 8 [1, 1]] ++ [newEntry .demand 8 []], x.kind ≠ .state) := by decide

/-- FaultListRecordsRaisings: a full list with an inactive record behind an active one, and one with none inactive. -/
theorem witness_fault_lists :
    (let l := (List.range 16).map fun q => (⟨.coilFail, q, 0, 1, q != 3⟩ : FaultRecord);
      l.length = 16 ∧ (∀ r ∈ l, ¬(r.code = .peerLost ∧ r.qualifier = 3)) ∧ (∀ x ∈ l.take 3, x.active = true) ∧
        l[3]?.map (·.active) = some false) ∧
    (let l := (List.range 16).map fun q => (⟨.coilFail, q, 0, 1, true⟩ : FaultRecord);
      l.length = 16 ∧ ∀ r ∈ l, r.active = true) := by decide

/-- The service statements: a request of the tool reaches station 1. -/
theorem witness_serves : axle2.Serves tool := ⟨by decide, by decide, by decide, by decide, by decide, by decide, by decide⟩

/-- ReadingRequestsAreAnswered: arguments at their limits. -/
theorem witness_arguments :
    snapshotArgs [0] = some (0, 0, 0) ∧ snapshotArgs [3, 11, 255] = some (3, 11, 255) ∧ snapshotArgs [4] = none ∧
    snapshotArgs [3, 12] = none ∧ (15 : Byte).toNat ≤ 15 ∧ Request.ofCode 7 = none ∧ Request.ofCode 0 = none := by decide

/-- CalibrationSetsBothTrims and SweepAndRestartRequests: PARK at standstill with trims at their limits, one past
them, every coil FAIL, and a RUNNING sweep. -/
theorem witness_park :
    (let s := inMode axle2 .park .standstill;
      s.sweeping = false ∧ s.ladder.mode = .park ∧ s.ladder.qualifier = .standstill ∧ s.sweepMayRun = true ∧
        s.startUp.status = .good ∧ s.levelling.corners.left.height.valid = true ∧ s.coilFailed 0 = false) ∧
    (let s := { (inMode axle2 .park .standstill) with startUp := { axle2.startUp with coils := Vector.replicate 10 .fail } };
      s.sweepMayRun = true ∧ ∀ i, i < s.coilCount → s.coilFailed i = true) ∧
    trimFits (-60) = true ∧ trimFits 60 = true ∧ trimFits 61 = false ∧ (swept {}).sweeping = true := by decide

/-- RequestsWithoutServiceAreRefusedOrDropped: the shed flag, and a QUEUED slot. -/
theorem witness_dropped :
    ({ axle2 with link := { axle2.link with shed := true } } : State).link.shed = true ∧ axle2.link.shed = false ∧
    ({ axle2 with service := { axle2.service with slot := .queued } } : State).service.slot = .queued := by decide

/-- The step invariants: a state that holds more than the reset state and meets each of them, from which a step is
taken. -/
theorem witness_invariants :
    sendingState.link.QueueOk ∧ (step sendingState = .next sendingState.tick) ∧
    (let s := { axle3 with tracker := { axle3.tracker with queue := [⟨65535, 298, false⟩, ⟨0, 298, true⟩] } };
      s.tracker.queue.IsChain fun a b => b.index = a.index + 1) ∧
    (let s := { axle3 with steering := { axle3.steering with command := 1500, dp := -1500 } };
      s.steering.command.natAbs ≤ s.cfg.maxLock ∧ s.steering.dp.natAbs ≤ s.cfg.maxLock) ∧
    (swept {}).SweepOk ∧
    (let s := inMode (doors { state := .locked } false) .drive .moving; s.noneOpen = true ∧ s.loaded = true) ∧
    (let s := { (doors { state := .opened } false) with interlock := { (doors { state := .opened } false).interlock with valve := true } };
      s.someEntrance Entrance.isOpenish = true ∧ s.interlock.valve = true) ∧
    (let l : Levelling := { used := 10, limit := 15, share := 32 }; l.used ≤ l.limit ∧ l.limit ≤ l.share) := by
  refine ⟨witness_sound_queue, rfl, ?_, ?_, ⟨?_, ?_, ?_, ?_, ?_⟩, ?_, ?_, ?_⟩ <;> decide

end Sys2Proof.Tests
end

section
/-! PROOFS. The own entrances, slot by slot: what the flags say of them, and what the interlock's operations do to
their records. -/

namespace Sys2Proof.Machine

/-! ### The flags over the own entrances -/

theorem slotHolds_iff (fitted : Bool) (r : Option Entrance) (p : Entrance → Bool) :
    slotHolds fitted r p = true ↔ (fitted = true → ∃ e, r = some e ∧ p e = true) := by
  cases fitted <;> cases r <;> simp [slotHolds]

theorem Slot.forall_iff {P : Slot → Prop} : (∀ slot, P slot) ↔ P .zero ∧ P .one :=
  ⟨fun h => ⟨h .zero, h .one⟩, fun h slot => by cases slot; exacts [h.1, h.2]⟩

theorem Slot.exists_iff {P : Slot → Prop} : (∃ slot, P slot) ↔ P .zero ∨ P .one :=
  ⟨fun ⟨slot, h⟩ => by cases slot; exacts [.inl h, .inr h], fun h => h.elim (⟨_, ·⟩) (⟨_, ·⟩)⟩

/-- A flag over every own entrance, as the statements speak of it. -/
theorem State.everyEntrance_iff (s : State) (p : Entrance → Bool) :
    s.everyEntrance p = true ↔ s.OwnEntrances fun e => p e = true := by
  simp only [State.everyEntrance, State.OwnEntrances, Bool.and_eq_true, slotHolds_iff, Slot.forall_iff]
  rfl

theorem State.someEntrance_iff (s : State) (p : Entrance → Bool) :
    s.someEntrance p = true ↔ ∃ slot e, s.entrance slot = some e ∧ p e = true := by
  simp only [State.someEntrance, Bool.or_eq_true, Slot.exists_iff, State.entrance, atSlot]
  refine or_congr ?_ ?_ <;> split <;> simp_all

theorem State.OwnEntrances.congr {s : State} {p q : Entrance → Prop} (h : ∀ e, p e ↔ q e) :
    s.OwnEntrances p ↔ s.OwnEntrances q := by
  simp only [State.OwnEntrances, h]

theorem State.noneOpen_iff (s : State) : s.noneOpen = true ↔ s.OwnEntrances fun e => e.isOpenish = false := by
  simp [State.noneOpen, State.everyEntrance_iff]

theorem Entrance.isOpenish_congr {a b : Entrance} (h : a.state = b.state) : a.isOpenish = b.isOpenish := by
  simp only [Entrance.isOpenish, h]

/-! ### The records after an update -/

@[simp] theorem State.entrance_putEntrance (s : State) (slot : Slot) (e : Entrance) :
    (s.putEntrance slot e).entrance slot = some e := by
  simp [State.entrance]

theorem State.entrance_putEntrance_of_ne (s : State) {slot other : Slot} (e : Entrance) (h : other ≠ slot) :
    (s.putEntrance slot e).entrance other = s.entrance other := by
  match slot, other, h with
  | .zero, .one, _ => rfl
  | .one, .zero, _ => rfl
  | .zero, .zero, h => exact absurd rfl h
  | .one, .one, h => exact absurd rfl h

theorem State.entrance_congr {s t : State} (h : t.interlock.records = s.interlock.records) (slot : Slot) :
    t.entrance slot = s.entrance slot := by
  simp only [State.entrance, h]

/-- Every record of `t` has the state that the slot's record has in `s`. -/
def State.SameDoors (s t : State) : Prop :=
  ∀ slot, (t.entrance slot).map (·.state) = (s.entrance slot).map (·.state)

theorem State.SameDoors.of_records {s t : State} (h : t.interlock.records = s.interlock.records) : s.SameDoors t :=
  fun slot => by rw [State.entrance_congr h]

theorem State.SameDoors.symm {s t : State} (h : s.SameDoors t) : t.SameDoors s := fun slot => (h slot).symm

theorem State.SameDoors.trans {s t u : State} (h : s.SameDoors t) (h' : t.SameDoors u) : s.SameDoors u :=
  fun slot => (h' slot).trans (h slot)

theorem State.SameDoors.of_some {s t : State} (h : s.SameDoors t) {slot : Slot} {e : Entrance}
    (he : s.entrance slot = some e) : ∃ e', t.entrance slot = some e' ∧ e'.state = e.state := by
  simpa [he] using h slot

theorem State.SameDoors.put {s : State} {slot : Slot} {e e' : Entrance} (he : s.entrance slot = some e)
    (hs : e'.state = e.state) : s.SameDoors (s.putEntrance slot e') := by
  intro other
  by_cases h : other = slot
  · subst h; simp [he, hs]
  · rw [s.entrance_putEntrance_of_ne _ h]

/-- The shut entrances stay shut when the same slots are fitted and the records' states stay. -/
theorem State.SameDoors.noneOpen {s t : State} (h : s.SameDoors t) (hc : t.cfg = s.cfg) (hn : s.noneOpen = true) :
    t.noneOpen = true := by
  rw [State.noneOpen_iff] at *
  intro slot hf
  obtain ⟨e, he, ho⟩ := hn slot (hc ▸ hf)
  obtain ⟨e', he', hs⟩ := h.of_some he
  exact ⟨e', he', (Entrance.isOpenish_congr hs).trans ho⟩

theorem State.noneOpen_congr {s t : State} (hc : t.cfg = s.cfg) (hi : t.interlock = s.interlock)
    (hn : s.noneOpen = true) : t.noneOpen = true :=
  (State.SameDoors.of_records (by rw [hi])).noneOpen hc hn

theorem State.cfg_congr {s t : State} (h : t.startUp.config = s.startUp.config) : t.cfg = s.cfg := by
  simp only [State.cfg, h]

/-- The stop-brake valve's rule holds on when the records' states and the valve stay. -/
theorem State.SameDoors.valveOk {s t : State} (h : s.SameDoors t) (hv : t.interlock.valve = s.interlock.valve)
    (hs : s.ValveOk) : t.ValveOk := by
  intro ho
  obtain ⟨slot, e, he, hp⟩ := (t.someEntrance_iff _).1 ho
  obtain ⟨e', he', hst⟩ := h.symm.of_some he
  rw [hv]
  exact hs ((s.someEntrance_iff _).2 ⟨slot, e', he', Entrance.isOpenish_congr hst ▸ hp⟩)

/-- A record put into a slot leaves the shut entrances shut when the slot is not fitted or the record is shut. -/
theorem State.noneOpen_putEntrance {s : State} {slot : Slot} {e : Entrance} (hn : s.noneOpen = true)
    (he : s.slotFitted slot = true → e.isOpenish = false) : (s.putEntrance slot e).noneOpen = true := by
  rw [State.noneOpen_iff] at *
  intro other hf
  by_cases h : other = slot
  · subst h; exact ⟨e, by simp, he hf⟩
  · rw [s.entrance_putEntrance_of_ne _ h]; exact hn other hf

/-! ### The states of one entrance -/

@[simp] theorem Entrance.readInputs_isOpenish (e : Entrance) (i : SlotInputs) (bit : Bool) :
    (e.readInputs i bit).isOpenish = e.isOpenish := rfl

/-- At its limit a phase timer takes the entrance to FAULT. -/
theorem Entrance.timed_at_limit {e : Entrance} {limit : Nat} (cause : EntranceCause) (h : limit ≤ e.timer + 10) :
    e.timed limit cause = e.toFault cause := by
  rw [Entrance.timed, if_neg (by omega)]

/-- With no release allowed a shut entrance stays shut (R133, R134, R139). -/
theorem Entrance.step_isOpenish {e : Entrance} (h : e.isOpenish = false) : (e.step false).isOpenish = false := by
  unfold Entrance.step
  split
  · rfl
  · cases hs : e.state
    case locked =>
      simp only [Entrance.act, hs, Entrance.inLocked, Bool.and_false, Bool.false_eq_true, if_false]
      split
      · rfl
      · exact h
    case breach | fault =>
      simp only [Entrance.act, hs, Entrance.untilLocked]
      split
      · rfl
      · exact h
    all_goals simp [Entrance.isOpenish, hs] at h

/-! ### The stages of an entrance period -/

@[simp] theorem State.moveEntrance_interlock (s : State) (slot : Slot) (a b : Entrance) :
    (s.moveEntrance slot a b).interlock = (s.putEntrance slot b).interlock := by
  simp [State.moveEntrance]

/-- An entrance that moves to a shut state, or was open before, leaves the shut entrances shut. -/
theorem State.noneOpen_moveEntrance {s : State} {slot : Slot} {a b : Entrance} (hn : s.noneOpen = true)
    (ha : s.entrance slot = some a) (hb : a.isOpenish = false → b.isOpenish = false) :
    (s.moveEntrance slot a b).noneOpen = true := by
  refine State.noneOpen_congr (s := s.putEntrance slot b) (State.cfg_congr (by simp)) (by simp) ?_
  refine State.noneOpen_putEntrance hn fun hf => hb ?_
  obtain ⟨e, he, ho⟩ := s.noneOpen_iff.1 hn slot hf
  obtain rfl : a = e := Option.some.inj (ha ▸ he)
  exact ho

/-- Stage 1 makes no record open where every fitted slot has a shut one. -/
theorem State.noneOpen_readSlot {s : State} (hn : s.noneOpen = true) (slot : Slot) (i : SlotInputs) :
    (s.readSlot slot i).noneOpen = true := by
  unfold State.readSlot
  split
  · next hf =>
    obtain ⟨e, he, ho⟩ := s.noneOpen_iff.1 hn slot hf
    exact State.noneOpen_putEntrance hn fun _ => by simpa [he] using ho
  · exact hn

theorem State.noneOpen_stepSlot {s : State} (hn : s.noneOpen = true) (hr : s.mayRelease = false) (slot : Slot) :
    (s.stepSlot slot).noneOpen = true := by
  unfold State.stepSlot
  split
  · split
    · next e he => exact State.noneOpen_moveEntrance hn he (by rw [hr]; exact Entrance.step_isOpenish)
    · exact hn
  · exact hn

/-- No release is allowed in DRIVE or RAISE (R134). -/
theorem State.mayRelease_of_shut_mode {s : State} (h : s.ladder.mode = .drive ∨ s.ladder.mode = .raise) :
    s.mayRelease = false := by
  rcases h with h | h <;> simp [State.mayRelease, releaseMode, h]

theorem State.setOutputs_sameDoors (s : State) : s.SameDoors s.setOutputs := by
  intro slot
  cases slot <;> simp [State.entrance, atSlot, State.setOutputs, Function.comp_def]

theorem State.breachAlert_sameDoors (s : State) (slot : Slot) : s.SameDoors (s.breachAlert slot) := by
  unfold State.breachAlert
  split
  · exact fun _ => rfl
  · next e he =>
    split
    · split
      · exact (State.SameDoors.put (e' := { e with alerting := true, alertTimer := 20 }) he rfl).trans (.of_records (by simp))
      · exact fun _ => rfl
    · exact State.SameDoors.put he rfl

@[simp] theorem State.breachAlert_valve (s : State) (slot : Slot) :
    (s.breachAlert slot).interlock.valve = s.interlock.valve := by
  unfold State.breachAlert; (repeat' split) <;> simp [State.putEntrance]

/-- Stages 3 to 5 change no entrance's state. -/
theorem State.entranceReport_sameDoors (s : State) : s.SameDoors s.entranceReport := by
  have hflags : s.SameDoors s.setOutputs.setValve.setFlags := s.setOutputs_sameDoors.trans (.of_records rfl)
  exact (hflags.trans (State.breachAlert_sameDoors _ _)).trans (State.breachAlert_sameDoors _ _)

/-- After stages 3 to 5 the stop-brake valve follows its terms, an open entrance among them (R141). -/
theorem State.entranceReport_valveOk (s : State) : s.entranceReport.ValveOk := by
  have hflags : s.setOutputs.setValve.setFlags.ValveOk := by
    intro h
    have hopen : s.setOutputs.someEntrance Entrance.isOpenish = true := h
    have hany : s.setOutputs.valveTerms.any = true := by simp [ValveTerms.any, State.valveTerms, hopen]
    exact hany
  have hzero := (State.breachAlert_sameDoors _ .zero).valveOk (State.breachAlert_valve _ _) hflags
  exact (State.breachAlert_sameDoors _ .one).valveOk (State.breachAlert_valve _ _) hzero

end Sys2Proof.Machine
end

section
/-! PROOFS. What each command leaves of the mode, of the configuration and of the state before it: the standing of the
station. -/

namespace Sys2Proof.Machine

variable (s : State)

/-! ### The mode and the configuration through the sweep, the record and reception -/

@[simp] theorem State.endSweep_config (how : SweepState) :
    (s.endSweep how).startUp.config = s.startUp.config ∧ (s.endSweep how).startUp.status = s.startUp.status := by
  simp [State.endSweep_startUp]

@[simp] theorem State.checkSweep_config :
    s.checkSweep.startUp.config = s.startUp.config ∧ s.checkSweep.startUp.status = s.startUp.status := by
  unfold State.checkSweep; split <;> simp

@[simp] theorem State.sweepFrom_config (i : Nat) :
    (s.sweepFrom i).startUp.config = s.startUp.config ∧ (s.sweepFrom i).startUp.status = s.startUp.status := by
  unfold State.sweepFrom; split <;> simp [State.beginCoil]

@[simp] theorem State.startSweep_config :
    s.startSweep.startUp.config = s.startUp.config ∧ s.startSweep.startUp.status = s.startUp.status := by
  simp [State.startSweep]

@[simp] theorem State.sweepOrSkip_config :
    s.sweepOrSkip.startUp.config = s.startUp.config ∧ s.sweepOrSkip.startUp.status = s.startUp.status := by
  unfold State.sweepOrSkip; split <;> simp

@[simp] theorem State.recordCoil_config (i : Nat) (r : CoilResult) :
    (s.recordCoil i r).startUp.config = s.startUp.config ∧ (s.recordCoil i r).startUp.status = s.startUp.status := by
  unfold State.recordCoil; split <;> simp

@[simp] theorem State.sweepStep_config (f : Bool) :
    (s.sweepStep f).startUp.config = s.startUp.config ∧ (s.sweepStep f).startUp.status = s.startUp.status := by
  simp only [State.sweepStep]; split <;> simp

@[simp] theorem State.freshenDemand_mode (v : DemandValues) : (s.freshenDemand v).ladder.mode = s.ladder.mode := rfl

@[simp] theorem State.acceptDemand_standing (v : DemandValues) :
    (s.acceptDemand v).ladder.mode = s.ladder.mode ∧ (s.acceptDemand v).startUp.config = s.startUp.config ∧
    (s.acceptDemand v).startUp.status = s.startUp.status := by
  simp [State.acceptDemand]

@[simp] theorem State.takeDemand_standing (p : List Byte) :
    (s.takeDemand p).ladder.mode = s.ladder.mode ∧ (s.takeDemand p).startUp.config = s.startUp.config ∧
    (s.takeDemand p).startUp.status = s.startUp.status := by
  unfold State.takeDemand; split <;> simp

@[simp] theorem State.runDemand_standing (w : Switches) :
    (s.runDemand w).ladder.mode = s.ladder.mode ∧ (s.runDemand w).startUp.config = s.startUp.config ∧
    (s.runDemand w).startUp.status = s.startUp.status := by
  simp [State.runDemand]

@[simp] theorem State.serveCoilSweep_config (n : Fin 8) :
    (s.serveCoilSweep n).startUp.config = s.startUp.config ∧
    (s.serveCoilSweep n).startUp.status = s.startUp.status := by
  unfold State.serveCoilSweep; split <;> simp

@[simp] theorem State.carry_config (n : Fin 8) (r : Request) (a : List Byte) :
    (s.carry n r a).startUp.config = s.startUp.config ∧ (s.carry n r a).startUp.status = s.startUp.status := by
  unfold State.carry; (repeat' split) <;> simp

@[simp] theorem State.serve_config (n : Fin 8) (r : Request) (a : List Byte) :
    (s.serve n r a).startUp.config = s.startUp.config ∧ (s.serve n r a).startUp.status = s.startUp.status := by
  unfold State.serve; (repeat' split) <;> simp

@[simp] theorem State.servePayload_config (n : Fin 8) (p : List Byte) :
    (s.servePayload n p).startUp.config = s.startUp.config ∧
    (s.servePayload n p).startUp.status = s.startUp.status := by
  unfold State.servePayload; (repeat' split) <;> simp

@[simp] theorem State.takeRequest_config (a : Address) (p : List Byte) :
    (s.takeRequest a p).startUp.config = s.startUp.config ∧
    (s.takeRequest a p).startUp.status = s.startUp.status := by
  unfold State.takeRequest; (repeat' split) <;> simp

@[simp] theorem State.routeRequest_config (a : Address) (p : List Byte) :
    (s.routeRequest a p).startUp.config = s.startUp.config ∧
    (s.routeRequest a p).startUp.status = s.startUp.status := by
  unfold State.routeRequest; split <;> simp

@[simp] theorem State.route_standing (k : Kind) (a : Address) (p : List Byte) :
    (s.route k a p).ladder.mode = s.ladder.mode ∧ (s.route k a p).startUp.config = s.startUp.config ∧
    (s.route k a p).startUp.status = s.startUp.status := by
  unfold State.route; (repeat' split) <;> simp

@[simp] theorem State.screen_standing (k : Kind) (a : Address) (p : List Byte) :
    (s.screen k a p).ladder.mode = s.ladder.mode ∧ (s.screen k a p).startUp.config = s.startUp.config ∧
    (s.screen k a p).startUp.status = s.startUp.status := by
  unfold State.screen; (repeat' split) <;> simp

@[simp] theorem State.accept_standing (k : Kind) (a : Address) (p : List Byte) :
    (s.accept k a p).ladder.mode = s.ladder.mode ∧ (s.accept k a p).startUp.config = s.startUp.config ∧
    (s.accept k a p).startUp.status = s.startUp.status := by
  unfold State.accept; split <;> simp

@[simp] theorem State.receive_standing (h : RawHead) (p : List Byte) :
    (s.receive h p).ladder.mode = s.ladder.mode ∧ (s.receive h p).startUp.config = s.startUp.config ∧
    (s.receive h p).startUp.status = s.startUp.status := by
  unfold State.receive; (repeat' split) <;> simp

/-! ### The relation -/

variable {s} {t u : State}

/-- `t` stands in the mode and on the configuration of `s`, and still waits for the configuration if `s` does. -/
structure State.StandsAs (s t : State) : Prop where
  mode : t.ladder.mode = s.ladder.mode
  config : t.startUp.config = s.startUp.config
  status : t.startUp.status = s.startUp.status
  waiting : s.loaded = false → s.Waiting → t.Waiting

theorem State.loaded_congr (h : t.startUp.status = s.startUp.status) : t.loaded = s.loaded := by
  simp only [State.loaded, h]

/-- What the state before the configuration asks is kept with these four. -/
theorem State.Waiting.congr (w : s.Waiting) (hm : t.ladder.mode = s.ladder.mode)
    (hf : t.demandFreshness = s.demandFreshness) (hd : t.startUp.done = s.startUp.done)
    (hs : t.startUp.sweep = s.startUp.sweep) : t.Waiting where
  demand := hf.trans w.demand
  done := hd.trans w.done
  sweep := by simpa only [State.sweeping, hs] using w.sweep
  mode := hm.symm ▸ w.mode

namespace State.StandsAs

theorem refl (s : State) : s.StandsAs s := ⟨rfl, rfl, rfl, fun _ w => w⟩

theorem trans (h : s.StandsAs t) (h' : t.StandsAs u) : s.StandsAs u where
  mode := h'.mode.trans h.mode
  config := h'.config.trans h.config
  status := h'.status.trans h.status
  waiting hl w := h'.waiting ((State.loaded_congr h.status).trans hl) (h.waiting hl w)

theorem ite {c : Bool} (h : c = true → s.StandsAs t) : s.StandsAs (if c then t else s) := by
  split
  · next hc => exact h hc
  · exact refl s

/-- On a held configuration the mode and the configuration are all there is to keep. -/
theorem of_loaded (hl : s.loaded = true)
    (h : t.ladder.mode = s.ladder.mode ∧ t.startUp.config = s.startUp.config ∧ t.startUp.status = s.startUp.status) :
    s.StandsAs t := by
  obtain ⟨hm, hc, hs⟩ := h
  exact ⟨hm, hc, hs, fun hf _ => by simp [hl] at hf⟩

/-- Nothing that the standing speaks of is touched. -/
theorem of_same (hm : t.ladder.mode = s.ladder.mode) (hf : t.demandFreshness = s.demandFreshness)
    (hu : t.startUp = s.startUp) : s.StandsAs t :=
  ⟨hm, by rw [hu], by rw [hu], fun _ w => w.congr hm hf (by rw [hu]) (by rw [hu])⟩

/-- An abort needs a RUNNING sweep, and there is none before the configuration. -/
theorem checkSweep (s : State) : s.StandsAs s.checkSweep where
  mode := by simp
  config := by simp
  status := by simp
  waiting _ w := by rw [State.checkSweep_of_not_sweeping w.sweep]; exact w

end State.StandsAs

/-! ### Commands that touch neither start-up, mode, freshness of the record nor entrances -/

/-- Start-up, the mode, the standing of the DEMAND record and the interlock are as they were. -/
def State.Quiet (s t : State) : Prop :=
  t.startUp = s.startUp ∧ t.ladder.mode = s.ladder.mode ∧ t.demandFreshness = s.demandFreshness ∧
    t.interlock = s.interlock

theorem State.Quiet.standsAs (h : s.Quiet t) : s.StandsAs t := by
  obtain ⟨hu, hm, hf, -⟩ := h
  exact .of_same hm hf hu

theorem State.Quiet.ite {c : Bool} (h : s.Quiet t) : s.Quiet (if c then t else s) := by
  split
  · exact h
  · exact ⟨rfl, rfl, rfl, rfl⟩

/-- The commands that are quiet in every state: all but the resets, the configuration, the sweep's, the ladder period,
the frames from the link, the limits of the DEMAND record, the entrances' and the DEMAND computation. -/
def quietCommand : Instr → Bool
  | .powerOnReset _ | .serviceRestart _ | .configurationImageRead _ | .sweepOrSkip | .sweepStep _ | .ladderPeriod
  | .stateFrame _ _ _ | .demandFrame _ _ | .alertFrame _ _ | .traceFrame _ _ | .serviceReplyFrame _ _
  | .frameRejected _ _ | .demandStale | .demandLost | .entrancePeriod _ | .lockTimeout _ | .closeTimeout _
  | .reopeningDone _ | .entranceBreachRepeat _ | .demandComputation _ | .snapshot _ _ | .readFaults _ _
  | .clearFaults _ _ | .calibrateHeight _ _ | .coilSweep _ _ | .restart _ _ | .unknownRequest _ _ => false
  | _ => true

/-- The state a command answers, taken out of its outcome. -/
theorem holds_of_next {P : State → Prop} (h : (.next u : Host.Outcome State Fault Refusal) = .next t) (hu : P u) :
    P t := by
  cases h; exact hu

/-- The commands listed as quiet are: whole periods first, then the moments with a guard. -/
theorem exec_quiet {c : Instr} (hc : quietCommand c = true) (h : exec c s = .next t) : s.Quiet t := by
  cases c with
  | trackerPeriod | steeringPeriod | jointPeriod | brakePeriod | slipPeriod | levellingPeriod | wheelPulse =>
    exact holds_of_next h (by simp [State.Quiet, State.demandFreshness])
  | alertExpiry | linkIdle | statePromotion | frameCheckError | frameFormatError =>
    exact holds_of_next h ⟨rfl, rfl, rfl, rfl⟩
  | stillTimerFull | startupTimerLimit | recoveryTimerFull | peerStale | peerLost | peerAbsentLimit | demandAbsentLimit
  | secondsTick =>
    exact holds_of_next h (.ite ⟨rfl, rfl, rfl, rfl⟩)
  | rejectionRunBreak | pathStep | trackingFault | steerPinnedRepeat | jointSensorRecovery | jackknifeSet
  | jackknifeClear | jackknifeAlertRepeat | jointLimitAlertRepeat | chamberSensorRecovery | gripReapply | brakeDegraded
  | brakeDegradedRepeat | airWindowStart | cornerLocked | outOfBandLimit | heightSensorRecovery | bellowsSensorRecovery
  | supplySensorRecovery | raiseSlow | arbitrationLost | sendBitError | frameSent | linkAlone | stateTimer =>
    exact holds_of_next h (.ite (by simp [State.Quiet, State.demandFreshness]))
  | _ => exact nomatch hc

/-! ### Every other command but the resets, the image and the ladder period -/

/-- A frame is discarded before the configuration is held, and counted among its link's figures alone (R148). -/
theorem State.receive_standsAs (s : State) (head : RawHead) (p : List Byte) : s.StandsAs (s.receive head p) where
  mode := by simp
  config := by simp
  status := by simp
  waiting hl w := by
    have hacc : s.acknowledge.loaded = false := hl
    have hsame : (s.receive head p).ladder = s.ladder ∧ (s.receive head p).startUp = s.startUp ∧
        (s.receive head p).peerView = s.peerView := by
      unfold State.receive State.accept
      (repeat' split) <;> simp_all
    obtain ⟨hm, hu, hp⟩ := hsame
    exact w.congr (by rw [hm]) (by simp only [State.demandFreshness, hp]) (by rw [hu]) (by rw [hu])

theorem State.finishSlot_standsAs (s : State) (slot : Slot) (a b : Entrance) : s.StandsAs (s.finishSlot slot a b) := by
  have hreport : s.StandsAs (s.moveEntrance slot a b).entranceReport :=
    .of_same (by simp) (by simp [State.demandFreshness]) (by simp)
  exact hreport.trans (.checkSweep _)

theorem State.breachAlert_standsAs (s : State) (slot : Slot) : s.StandsAs (s.breachAlert slot) :=
  .of_same (by simp) (by simp [State.demandFreshness]) (by simp)

/-- A DEMAND whose age has passed a limit has been heard, so the configuration is held. -/
theorem State.standsAs_of_heard {s t : State} (hf : s.demandFreshness ≠ .absent)
    (h : t.ladder.mode = s.ladder.mode ∧ t.startUp.config = s.startUp.config ∧ t.startUp.status = s.startUp.status) :
    s.StandsAs t := by
  obtain ⟨hm, hc, hs⟩ := h
  exact ⟨hm, hc, hs, fun _ w => absurd w.demand hf⟩

/-- A RUNNING sweep has its configuration. -/
theorem State.standsAs_of_sweeping {s t : State} (hr : s.sweeping = true)
    (h : t.ladder.mode = s.ladder.mode ∧ t.startUp.config = s.startUp.config ∧ t.startUp.status = s.startUp.status) :
    s.StandsAs t := by
  obtain ⟨hm, hc, hs⟩ := h
  exact ⟨hm, hc, hs, fun _ w => by simp [w.sweep] at hr⟩

/-- The commands that set the mode or the configuration: the resets, the image read and the ladder period. -/
def standingCommand : Instr → Bool
  | .powerOnReset _ | .serviceRestart _ | .configurationImageRead _ | .ladderPeriod => true
  | _ => false

/-- Every other command keeps the standing: frames and the interlock's own commands too. -/
theorem exec_standsAs {c : Instr} (hc : standingCommand c = false) (h : exec c s = .next t) : s.StandsAs t := by
  by_cases hq : quietCommand c = true
  · exact (exec_quiet hq h).standsAs
  cases c with
  | powerOnReset | serviceRestart | configurationImageRead | ladderPeriod => exact nomatch hc
  | stateFrame | demandFrame | alertFrame | traceFrame | serviceReplyFrame | frameRejected | snapshot | readFaults
  | clearFaults | calibrateHeight | coilSweep | restart | unknownRequest =>
    exact holds_of_next h (s.receive_standsAs _ _)
  | sweepOrSkip =>
    refine holds_of_next h (.ite fun hd => .of_loaded ?_ (by simp))
    simp_all [State.choiceDue, State.loaded]
  | sweepStep feedback =>
    refine holds_of_next h (.ite fun hs => State.standsAs_of_sweeping hs ?_)
    split <;> simp
  | demandStale =>
    refine holds_of_next h (.ite fun hd => State.standsAs_of_heard ?_ (by simp))
    simp_all [State.demandStaleDue]
  | demandLost =>
    refine holds_of_next h (.ite fun hd => State.standsAs_of_heard (fun ha => ?_) (by simp))
    simp [State.demandLostDue, ha] at hd
  | entrancePeriod inputs =>
    exact holds_of_next h (.ite fun hl => .of_loaded hl (by simp))
  | lockTimeout slot | closeTimeout slot | reopeningDone slot =>
    refine holds_of_next h ?_
    split
    · exact .ite fun _ => s.finishSlot_standsAs slot _ _
    · exact .refl s
  | entranceBreachRepeat slot =>
    exact holds_of_next h (.ite fun _ => s.breachAlert_standsAs slot)
  | demandComputation switches =>
    refine holds_of_next h (.ite fun hd => .of_loaded ?_ (by simp))
    simp_all [State.demandDue, State.isCab]
  | _ => exact absurd rfl hq

end Sys2Proof.Machine
end

section
/-! PROOFS. The mode ladder: its inputs, its edges, the end of a sweep that a change breaks, and its statements. -/

namespace Sys2Proof.Machine

variable {s : State} {m : Mode}

/-! ### Causes of BACKUP -/

theorem State.backupCause_iff (s : State) : s.backupCause = true ↔ s.BackupCaused := by
  simp only [State.backupCause, State.BackupCaused, State.neverHeard, Bool.or_eq_true, Bool.and_eq_true, beq_iff_eq,
    decide_eq_true_eq]
  tauto

/-- The inputs of a period change no cause of BACKUP. -/
@[simp] theorem State.ladderInputs_backupCause (s : State) : s.ladderInputs.backupCause = s.backupCause := rfl

@[simp] theorem State.ladderInputs_mode (s : State) : s.ladderInputs.ladder.mode = s.ladder.mode := rfl

@[simp] theorem State.ladderInputs_recoveryTimer (s : State) :
    s.ladderInputs.ladder.recoveryTimer = s.recoveryAfter := rfl

@[simp] theorem State.ladderInputs_demandFreshness (s : State) :
    s.ladderInputs.demandFreshness = s.demandFreshness := rfl

theorem growTo_eq_min (limit k n : Nat) : growTo limit k n = min limit (n + k) := by
  unfold growTo; split <;> omega

/-- The recovery timer runs in BACKUP on a FRESH record alone (R17). -/
theorem State.recoveryAfter_eq (s : State) : s.recoveryAfter =
    if s.ladder.mode ≠ .backup then s.ladder.recoveryTimer
    else if s.demandFreshness = .fresh then min 1000 (s.ladder.recoveryTimer + 10) else 0 := by
  simp only [State.recoveryAfter, growTo_eq_min, beq_iff_eq]
  split <;> simp_all

/-! ### The edges, rung by rung -/

/-- A rung's edges in the table: `e` is the edge taken from `rung`, which it takes to `m` exactly when the table's
condition holds. -/
def State.RungTakes (s : State) (rung e : Mode) : Prop := ∀ m, m ≠ rung → (e = m ↔ s.edgeHolds rung m)

theorem State.noneOpen_iff_states (s : State) : s.noneOpen = true ↔ s.OwnEntrances fun e =>
    e.state ≠ .released ∧ e.state ≠ .opened ∧ e.state ≠ .closing ∧ e.state ≠ .obstructed := by
  rw [State.noneOpen_iff]
  exact State.OwnEntrances.congr fun e => by simp [Entrance.isOpenish, and_assoc]

theorem State.allLocked_iff (s : State) : s.allLocked = true ↔ s.OwnEntrances fun e => e.state = .locked := by
  rw [State.allLocked, State.everyEntrance_iff]
  exact State.OwnEntrances.congr fun e => by simp [Entrance.isLocked]

theorem State.driveEntrances_iff (s : State) : s.driveEntrances = true ↔ s.OwnEntrances fun e =>
    e.state = .locked ∨ (s.demand.ovr = true ∧ (e.state = .fault ∨ e.state = .breach)) := by
  rw [State.driveEntrances, State.everyEntrance_iff]
  exact State.OwnEntrances.congr fun e => by simp [Entrance.isLocked, Entrance.isFaulty]

theorem State.breached_eq_false_iff (s : State) :
    s.breached = false ↔ ∀ slot e, s.entrance slot = some e → e.state ≠ .breach := by
  rw [← Bool.not_eq_true, State.breached, State.someEntrance_iff]
  simp [Entrance.isBreach]

theorem State.kerbLocked_iff (s : State) : s.kerbLocked = true ↔ (s.corner s.cfg.kerb).height.valid = true ∧
    (s.corner s.cfg.kerb).locked = true ∧ (s.corner s.cfg.kerb).target = -(s.cfg.kneelDepth : Int) := by
  simp [State.kerbLocked, Corner.lockedAt, State.corner]

theorem State.rideLocked_iff (s : State) : s.rideLocked = true ↔ ∀ side, (s.corner side).height.valid = true →
    (s.corner side).locked = true ∧ (s.corner side).target = 0 := by
  have hcorner (c : Corner) : (!c.height.valid || c.lockedAt 0) = true ↔
      (c.height.valid = true → c.locked = true ∧ c.target = 0) := by
    cases c.height.valid <;> simp [Corner.lockedAt]
  simp only [State.rideLocked, Bool.and_eq_true, hcorner]
  exact ⟨fun ⟨hl, hr⟩ side => by cases side; exacts [hl, hr], fun h => ⟨h .left, h .right⟩⟩

/-- The ways out of START once start-up is done and the record FRESH, which gives a target (R6, R7). -/
theorem State.startEdge_of_ready (hdone : s.startUp.done = true) (hfresh : s.demandFreshness = .fresh)
    (ht : s.ladder.target ≠ .none) : s.startEdge =
      if s.ladder.qualifier = .standstill then (if s.ladder.target = .park then .park else .stop)
      else if s.ladder.target = .drive ∧ s.ladder.qualifier = .moving ∧ s.noneOpen = true then .drive else .start := by
  rw [State.startEdge, if_pos (by simp [hdone, hfresh])]
  cases htarget : s.ladder.target <;> grind

theorem State.startEdge_of_not_ready (h : ¬(s.startUp.done = true ∧ s.demandFreshness = .fresh)) :
    s.startEdge = .start := if_neg (by simpa using h)

/-- START (R6, R7). -/
theorem State.startEdge_takes (ht : s.demandFreshness = .fresh → s.ladder.target ≠ .none) :
    s.RungTakes .start s.startEdge := by
  intro m hm
  by_cases hready : s.startUp.done = true ∧ s.demandFreshness = .fresh
  · rw [State.startEdge_of_ready hready.1 hready.2 (ht hready.2)]
    cases m <;> simp only [State.edgeHolds, ← State.noneOpen_iff_states] <;> grind
  · rw [State.startEdge_of_not_ready hready]
    cases m <;> simp only [State.edgeHolds] <;> grind

/-- STOP (R10, R11). -/
theorem State.stopEdge_takes (s : State) : s.RungTakes .stop s.stopEdge := by
  intro m hm
  rw [State.stopEdge]
  cases m <;> simp only [State.edgeHolds, ← State.driveEntrances_iff] <;> grind

/-- KNEEL (R12): the edge to RAISE goes before the one to KNELT. -/
theorem State.edgeHolds_kneel_knelt (s : State) : s.edgeHolds .kneel .knelt ↔
    s.kerbLocked = true ∧ ¬(s.demand.kneel = false ∧ s.allLocked = true) := by
  simp only [State.edgeHolds, State.kerbLocked_iff, State.allLocked_iff, and_assoc]

theorem State.edgeHolds_raise_stop (s : State) : s.edgeHolds .raise .stop ↔
    s.demand.kneel = false ∧ s.rideLocked = true ∧ s.breached = false := by
  simp only [State.edgeHolds, State.rideLocked_iff, State.breached_eq_false_iff]

/-- Each rung's rule takes the edge whose condition the ladder table gives, and none when none holds (R6 to R15, R17). -/
theorem State.edge_takes (ht : s.demandFreshness = .fresh → s.ladder.target ≠ .none) :
    s.RungTakes s.ladder.mode s.edge := by
  unfold State.edge
  cases s.ladder.mode with
  | start => exact s.startEdge_takes ht
  | stop => exact s.stopEdge_takes
  | park =>
    intro m hm
    cases m <;> simp only [State.edgeHolds] <;> grind
  | kneel =>
    intro m hm
    cases m with
    | knelt => rw [State.edgeHolds_kneel_knelt]; grind
    | _ => simp only [State.edgeHolds, ← State.allLocked_iff]; grind
  | knelt =>
    intro m hm
    cases m <;> simp only [State.edgeHolds, ← State.allLocked_iff] <;> grind
  | raise =>
    intro m hm
    cases m with
    | stop => rw [State.edgeHolds_raise_stop]; grind
    | _ => simp only [State.edgeHolds]; grind
  | drive =>
    intro m hm
    cases m <;> simp only [State.edgeHolds] <;> grind
  | backup =>
    intro m hm
    cases m <;> simp only [State.edgeHolds] <;> grind

end Sys2Proof.Machine
end

section
/-! PROOFS. The end of a coil sweep and the reply it gives: what a change that breaks a RUNNING sweep does. -/

namespace Sys2Proof.Machine

variable {s : State}

/-! ### A reply offered to the queue -/

theorem Kind.cls_le (k : Kind) : k.cls ≤ 3 := by cases k <;> decide

theorem Link.QueueOk.cls_le {l : Link} (h : l.QueueOk) {e : Entry} (he : e ∈ l.queue) : e.cls ≤ 3 := by
  rcases h.classes e he with hc | ⟨-, hc⟩
  · exact hc ▸ e.kind.cls_le
  · omega

/-- The least urgent class is the class of some entry, or none. -/
theorem leastUrgent_le {queue : List Entry} {k c : Nat} (hk : ∀ e ∈ queue, e.cls ≤ k)
    (hc : leastUrgent queue = some c) : c ≤ k := by
  have hfold : ∀ (q : List Entry) (acc : Option Nat), (∀ e ∈ q, e.cls ≤ k) → acc.getD 0 ≤ k →
      (q.foldl (fun acc e => some (max (acc.getD 0) e.cls)) acc).getD 0 ≤ k := by
    intro q
    induction q with
    | nil => exact fun acc _ ha => ha
    | cons e q ih =>
      intro acc hq ha
      refine ih _ (fun x hx => hq x (.tail _ hx)) ?_
      simpa using ⟨ha, hq e (.head _)⟩
  have h := hfold (queue.filter fun e => !e.inFlight) none (fun e he => hk e (List.mem_of_mem_filter he)) (Nat.zero_le k)
  rw [leastUrgent] at hc
  simpa [hc] using h

/-- A full queue has no place for a frame of the least urgent class (R157). -/
theorem Link.append_of_full {l : Link} (hok : l.QueueOk) (hfull : l.queue.length = 8) {e : Entry} (he : e.cls = 3) :
    l.append e = ({ l with queueDropped := bump l.queueDropped }, ⟨false, false⟩) := by
  rcases l.append_cases e with ⟨hroom, -⟩ | ⟨-, c, hc, hlt, -⟩ | ⟨-, -, hdrop⟩
  · omega
  · have := leastUrgent_le (fun x hx => hok.cls_le hx) hc
    omega
  · exact hdrop

theorem Link.offer_reply {l : Link} (hl : l.listenOnly = false) (dest : Nat) (payload : List Byte) :
    l.offer (newEntry .serviceReply dest payload) = l.append (newEntry .serviceReply dest payload) := by
  simp [Link.offer, hl, newEntry]

theorem State.offerReply_of_room (r : Reply) (hl : s.link.listenOnly = false) (hr : s.link.queue.length < 8) :
    s.offerReply r = { s with
      link := Link.updateShed { s.link with queue := s.link.queue ++
        [{ kind := .serviceReply, cls := 3, dest := r.dest, payload := r.payload }] }
      service := { s.service with slot := .queued } } := by
  simp only [State.offerReply, Link.offer_reply hl, Link.append_of_room hr]
  rfl

theorem State.offerReply_of_listenOnly (r : Reply) (hl : s.link.listenOnly = true) :
    s.offerReply r = { s with service := { s.service with slot := s.service.idleSlot } } := by
  simp [State.offerReply, Link.offer_of_listenOnly hl]

theorem State.offerReply_of_full (r : Reply) (hl : s.link.listenOnly = false) (hfull : s.link.queue.length = 8)
    (hok : s.link.QueueOk) : s.offerReply r = { s with
      link := { s.link with queueDropped := bump s.link.queueDropped }
      service := { s.service with slot := s.service.idleSlot } } := by
  simp [State.offerReply, Link.offer_reply hl, Link.append_of_full hok hfull (e := newEntry .serviceReply _ _) rfl]

/-! ### The reply of an ended sweep -/

/-- The reply carries the coil results in coil number order (R177). -/
theorem State.sweepReply_eq (s : State) (tool : Fin 8) : s.sweepReply tool = ⟨tool.val, [5, 0] ++ s.coilBytes⟩ := by
  have hbytes : (s.startUp.coils.toList.take s.coilCount).map (fun c => BitVec.ofNat 8 c.number) = s.coilBytes := by
    have hcount := s.coilCount_le
    apply List.ext_getElem
    · simp [State.coilBytes]; omega
    · intro i hi hi'
      have hlen : i < s.startUp.coils.toList.length := by simp at hi ⊢; omega
      simp only [State.coilBytes, State.coil, List.getElem_map, List.getElem_take, List.getElem_range,
        List.getD_eq_getElem _ _ hlen]
      cases s.startUp.coils.toList[i] <;> rfl
  simp only [State.sweepReply, hbytes]
  rfl

/-- What the end of a sweep writes before the reply is given. -/
def State.sweepOver (s : State) (how : SweepState) : State :=
  { s with startUp := { s.startUp with
      sweep := { s.startUp.sweep with state := how }
      done := s.startUp.done || s.ladder.mode == .start } }

theorem State.endSweep_eq (s : State) (how : SweepState) : s.endSweep how = (s.sweepOver how).giveSweepReply := rfl

theorem State.sweepOver_coilBytes (s : State) (how : SweepState) : (s.sweepOver how).coilBytes = s.coilBytes := rfl

/-- A pending reply is held while the slot is QUEUED, and offered otherwise (R174). -/
theorem State.endSweep_of_asked {tool : Fin 8} (how : SweepState) (ha : s.service.sweepFor = some tool) :
    s.endSweep how =
      if s.service.slot = .queued then { s.sweepOver how with service := { s.service with
        sweepFor := none
        heldReply := some ⟨tool.val, [5, 0] ++ s.coilBytes⟩ } }
      else State.offerReply { s.sweepOver how with service := { s.service with sweepFor := none } }
        ⟨tool.val, [5, 0] ++ s.coilBytes⟩ := by
  have hover : (s.sweepOver how).service = s.service := rfl
  simp only [State.endSweep_eq, State.giveSweepReply, hover, ha, State.sweepReply_eq, State.sweepOver_coilBytes,
    beq_iff_eq]

/-- The end of a sweep as the statements speak of it. -/
theorem State.endSweep_ends (s : State) (how : SweepState) : s.SweepEnds (s.endSweep how) how where
  frame := by apply State.eq_of_blocks <;> simp [State.endSweep_startUp]
  unasked ha := by
    rw [State.endSweep_eq, State.giveSweepReply_of_none (by exact ha)]
    exact ⟨rfl, rfl⟩
  kept tool ha hq := by
    rw [State.endSweep_of_asked how ha, if_pos hq]
    exact ⟨rfl, rfl⟩
  queued tool ha hq hl hr := by
    rw [State.endSweep_of_asked how ha, if_neg hq, State.offerReply_of_room _ (by exact hl) (by exact hr)]
    exact ⟨rfl, rfl⟩
  silent tool ha hq hl := by
    rw [State.endSweep_of_asked how ha, if_neg hq, State.offerReply_of_listenOnly _ (by exact hl)]
    exact ⟨rfl, rfl⟩
  full tool ha hq hl hfull hok := by
    rw [State.endSweep_of_asked how ha, if_neg hq, State.offerReply_of_full _ (by exact hl) (by exact hfull) (by exact hok)]
    exact ⟨rfl, rfl⟩

/-- A change that a RUNNING sweep watches aborts it when its conditions no longer hold (R169). -/
theorem State.checkSweep_watches (s : State) : s.SweepWatches s.checkSweep where
  stands h := by
    unfold State.checkSweep
    split
    · rcases h with h | h <;> simp_all
    · rfl
  aborts hs hr := by
    have heq : s.checkSweep = s.endSweep .aborted := by simp [State.checkSweep, hs, hr]
    exact heq ▸ s.endSweep_ends .aborted

end Sys2Proof.Machine
end

section
/-! PROOFS. The statements of the mode ladder: one edge a period, the qualifier and the target, the timers' limits, and
who changes the mode. -/

namespace Sys2Proof.Machine

variable {s : State}

/-! ### The inputs of a period -/

theorem State.ladderInputs_stillTimer (s : State) :
    s.ladderInputs.ladder.stillTimer = stillAfter s.ownSpeed s.ladder.stillTimer := rfl

theorem State.ladderInputs_qualifier (s : State) :
    s.ladderInputs.ladder.qualifier = qualifierOf s.ownSpeed (stillAfter s.ownSpeed s.ladder.stillTimer) := rfl

theorem State.ladderInputs_target (s : State) : s.ladderInputs.ladder.target = s.targetNow := rfl

theorem stillAfter_of_slow {speed : Nat} (h : speed ≤ 5) (still : Nat) :
    stillAfter speed still = min 500 (still + 10) := by
  rw [stillAfter, if_neg (by omega), growTo_eq_min]

theorem stillAfter_of_moving {speed : Nat} (h : 5 < speed) (still : Nat) : stillAfter speed still = 0 := if_pos h

theorem qualifierOf_of_slow {speed : Nat} (h : speed ≤ 5) (still : Nat) :
    qualifierOf speed still = if still = 500 then .standstill else .settling := by
  simp only [qualifierOf, if_neg (Nat.not_lt.2 h), beq_iff_eq]

theorem qualifierOf_of_moving {speed : Nat} (h : 5 < speed) (still : Nat) : qualifierOf speed still = .moving := if_pos h

/-- A record that is known gives the first line of R4's table that applies. -/
theorem State.targetNow_of_known (h : s.demandFreshness = .fresh ∨ s.demandFreshness = .stale) :
    s.targetNow = targetOf s.peerView.demand.values := by
  rcases h with h | h <;> simp only [State.targetNow, h] <;>
    simp only [State.demandFreshness] at h <;> simp only [State.demand, h]

theorem State.targetNow_of_unknown (h : s.demandFreshness = .lost ∨ s.demandFreshness = .absent) :
    s.targetNow = .none := by
  rcases h with h | h <;> simp only [State.targetNow, h]

theorem targetOf_ne_none (v : DemandValues) : targetOf v ≠ .none := by
  unfold targetOf; (repeat' split) <;> exact nofun

theorem State.ladderInputs_target_ne_none (h : s.ladderInputs.demandFreshness = .fresh) :
    s.ladderInputs.ladder.target ≠ .none := by
  rw [State.ladderInputs_target, State.targetNow_of_known (s := s) (.inl h)]
  exact targetOf_ne_none _

/-! ### The edge of a period -/

theorem State.takeEdge_of_cause (hc : s.backupCause = true) (hm : s.ladder.mode ≠ .backup) :
    s.takeEdge = { s with ladder := { s.ladder with mode := .backup, recoveryTimer := 0 } } := by
  simp [State.takeEdge, hc, hm]

theorem State.takeEdge_of_rung (h : s.backupCause = false ∨ s.ladder.mode = .backup) :
    s.takeEdge = { s with ladder := { s.ladder with mode := s.edge } } := by
  rcases h with h | h <;> simp [State.takeEdge, h]

/-- An edge sets the mode, and on entry to BACKUP the recovery timer. -/
theorem State.takeEdge_eq (s : State) : s.takeEdge = { s with ladder := { s.ladder with
    mode := s.takeEdge.ladder.mode
    recoveryTimer := s.takeEdge.ladder.recoveryTimer } } := by
  unfold State.takeEdge; split <;> rfl

theorem State.takeEdge_inputs (s : State) : s.takeEdge.ladder.target = s.ladder.target ∧
    s.takeEdge.ladder.qualifier = s.ladder.qualifier ∧ s.takeEdge.ladder.stillTimer = s.ladder.stillTimer := by
  unfold State.takeEdge; split <;> exact ⟨rfl, rfl, rfl⟩

@[simp] theorem State.ladderPeriod_ladder (s : State) : s.ladderPeriod.ladder = s.ladderInputs.takeEdge.ladder := by
  simp [State.ladderPeriod]

/-- No rung's rule leads to BACKUP: its causes alone do (R16). -/
theorem State.not_edgeHolds_backup (s : State) (rung : Mode) : ¬s.edgeHolds rung .backup := by
  cases rung <;> exact id

theorem State.ladderInputs_edge_ne_backup (hm : s.ladder.mode ≠ .backup) : s.ladderInputs.edge ≠ .backup := fun he =>
  s.ladderInputs.not_edgeHolds_backup _ ((State.edge_takes State.ladderInputs_target_ne_none _ hm.symm).1 he)

/-- BACKUP is not left while a cause of it holds: the causes stand in the edge's condition, and a LOST record keeps the
recovery timer at 0 (R17). -/
theorem State.ladderInputs_edge_of_cause (hm : s.ladder.mode = .backup) (hc : s.BackupCaused) :
    s.ladderInputs.edge = .backup := by
  by_contra hne
  have hleaves : s.ladderInputs.edge ≠ s.ladderInputs.ladder.mode := by simpa [hm] using hne
  have hedge := (State.edge_takes State.ladderInputs_target_ne_none _ hleaves).1 rfl
  rw [State.ladderInputs_mode, hm] at hedge
  generalize s.ladderInputs.edge = m at hedge
  cases m with
  | stop =>
    obtain ⟨hdup, hbad, htimer, -⟩ := hedge
    have hrec : s.recoveryAfter = 1000 := htimer
    rcases hc with hlost | hd | hb | ⟨hstart, -⟩
    · simp [State.recoveryAfter_eq, hm, hlost] at hrec
    · exact absurd hd (by simpa using hdup)
    · exact hbad hb
    · simp [hm] at hstart
  | _ => exact hedge

/-- Settles O12: with a cause the mode is BACKUP, and otherwise the rung's edge is the ladder table's. -/
theorem ladderPeriodTakesOneEdge : Obligations.LadderPeriodTakesOneEdge := by
  intro s
  refine ⟨s.ladderPeriod, s.ladderInputs.takeEdge, rfl, ?_, State.checkSweep_watches _, ?_, ?_, ?_⟩
  · rw [State.ladderPeriod_ladder, s.ladderInputs.takeEdge_eq]
    rfl
  · rw [State.ladderPeriod_ladder]
    by_cases hm : s.ladder.mode = .backup
    · rw [State.takeEdge_of_rung (s := s.ladderInputs) (.inr hm)]
      simp [State.recoveryAfter_eq, hm]
    · by_cases hc : s.backupCause = true
      · simp [State.takeEdge_of_cause (s := s.ladderInputs) hc hm, hm]
      · rw [State.takeEdge_of_rung (s := s.ladderInputs) (.inl (by simpa using hc))]
        simp [State.ladderInputs_edge_ne_backup hm, State.recoveryAfter_eq, hm]
  · intro hc
    rw [State.ladderPeriod_ladder]
    by_cases hm : s.ladder.mode = .backup
    · rw [State.takeEdge_of_rung (s := s.ladderInputs) (.inr hm)]
      exact State.ladderInputs_edge_of_cause hm hc
    · rw [State.takeEdge_of_cause (s := s.ladderInputs) (s.backupCause_iff.2 hc) hm]
  · intro hc m hm
    have hc' : s.backupCause = false := by rw [← Bool.not_eq_true, State.backupCause_iff]; exact hc
    rw [State.ladderPeriod_ladder, State.takeEdge_of_rung (s := s.ladderInputs) (.inl hc')]
    exact State.edge_takes State.ladderInputs_target_ne_none m hm

/-- Settles O13: the period's inputs, as R3 and R4 give them, go through its edge unchanged. -/
theorem ladderPeriodSetsQualifierAndTarget : Obligations.LadderPeriodSetsQualifierAndTarget := by
  refine ⟨fun pins s => ⟨⟨_, rfl, rfl, rfl, rfl⟩, fun harmed hfree => ?_⟩, fun s hq => ?_, fun s => ?_⟩
  · have hexec : exec (.serviceRestart pins) s = .next (s.resetWith pins s.faults.kept) :=
      congrArg Host.Outcome.next (if_pos (by simp [State.restartDue, harmed, hfree]))
    exact ⟨_, hexec, rfl, rfl, rfl⟩
  · exact congrArg Host.Outcome.next (if_neg (by simp [State.choiceDue, hq]))
  · refine ⟨s.ladderPeriod, rfl, rfl, ?_⟩
    obtain ⟨htarget, hqual, hstill⟩ := s.ladderInputs.takeEdge_inputs
    rw [State.ladderPeriod_ladder, htarget, hqual, hstill, State.ladderInputs_target, State.ladderInputs_qualifier,
      State.ladderInputs_stillTimer]
    refine ⟨fun hslow => ?_, fun hfast => ?_, State.targetNow_of_unknown, State.targetNow_of_known⟩
    · rw [stillAfter_of_slow hslow]
      exact ⟨rfl, qualifierOf_of_slow hslow _⟩
    · rw [stillAfter_of_moving hfast]
      exact ⟨rfl, qualifierOf_of_moving hfast _⟩

/-- Settles O14: each timer's own command in the state one count short of the limit. -/
theorem ladderTimersReachTheirLimits : Obligations.LadderTimersReachTheirLimits := by
  refine ⟨fun s hspeed hstill => ?_, fun s hstart htimer habsent => ⟨?_, ?_⟩, fun s hmode hfresh htimer => ?_⟩
  · have hdue : s.stillDue = true := by simp [State.stillDue, hspeed, hstill]
    have hfull : stillAfter s.ownSpeed s.ladder.stillTimer = 500 := by rw [stillAfter_of_slow hspeed]; omega
    refine congrArg Host.Outcome.next ((if_pos hdue).trans ?_)
    rw [State.updateQualifier, hfull, qualifierOf_of_slow hspeed, if_pos rfl]
  · exact congrArg Host.Outcome.next (if_pos (by simp [State.neverHeard, hstart, htimer, habsent]))
  · exact .inr (.inr (.inr ⟨hstart, .inl ⟨htimer, habsent⟩⟩))
  · have hdue : s.recoveryDue = true := by simp [State.recoveryDue, hmode, hfresh, htimer]
    have hfull : s.recoveryAfter = 1000 := by simp [State.recoveryAfter_eq, hmode, hfresh]; omega
    refine congrArg Host.Outcome.next ((if_pos hdue).trans ?_)
    rw [hfull]

/-- The configuration is read without a look at the mode. -/
theorem execConfigurationImageRead_mode {image : List Byte} {t : State}
    (h : exec (.configurationImageRead image) s = .next t) : t.ladder.mode = s.ladder.mode := by
  refine holds_of_next (P := fun u => u.ladder.mode = s.ladder.mode) h ?_
  split <;> simp

/-- Settles O15: every command but the four that set the standing keeps the mode, and so does the image read. -/
theorem modeChangesOnlyByLadderOrReset : Obligations.ModeChangesOnlyByLadderOrReset := by
  intro c s t h hne
  by_cases hc : standingCommand c = true
  · cases c with
    | ladderPeriod => exact .inl rfl
    | powerOnReset pins => exact .inr (.inl ⟨pins, rfl⟩)
    | serviceRestart pins => exact .inr (.inr ⟨pins, rfl⟩)
    | configurationImageRead image => exact absurd (execConfigurationImageRead_mode h) hne
    | _ => exact nomatch hc
  · exact absurd (exec_standsAs (by simpa using hc) h).mode hne

end Sys2Proof.Machine
end

section
/-! PROOFS. The two interlock promises that every step keeps: no entrance is open in DRIVE or RAISE, and the stop-brake
valve is energised while one is open. -/

namespace Sys2Proof.Machine

variable {s t : State}

/-! ### A step, from its commands and its milliseconds -/

/-- What the queue does not matter to, a millisecond keeps and every command keeps is kept by every step. -/
theorem step_keeps {P : State → Prop} (hqueue : ∀ s q, P s → P { s with pending := q }) (hpass : ∀ s, P s → P s.pass)
    (hexec : ∀ c s t, P s → exec c s = .next t → P t) (hs : P s) (h : step s = .next t) : P t := by
  unfold step at h
  split at h
  · refine holds_of_next h (hqueue _ _ ?_)
    split
    · exact hpass s hs
    · exact hs
  · exact hexec _ _ _ (hqueue _ _ hs) h

/-! ### The records and the valve through the commands that move no entrance -/

/-- The entrances' states and the valve's are those of `s`. -/
structure State.DoorsStay (s t : State) : Prop where
  doors : s.SameDoors t
  valve : t.interlock.valve = s.interlock.valve

theorem State.DoorsStay.of_interlock (h : t.interlock = s.interlock) : s.DoorsStay t :=
  ⟨.of_records (by rw [h]), by rw [h]⟩

theorem State.DoorsStay.ite {c : Bool} (h : s.DoorsStay t) : s.DoorsStay (if c then t else s) := by
  split
  · exact h
  · exact .of_interlock rfl

@[simp] theorem State.configure_interlock (s : State) (image : List Byte) :
    (s.configure image).interlock = { s.interlock with demandTimer := 0 } := by
  simp [State.configure, State.blocksStart]

@[simp] theorem State.runDemand_interlock (s : State) (w : Switches) :
    (s.runDemand w).interlock = (s.setLines w).interlock := by
  simp [State.runDemand]

/-- A millisecond runs the entrances' alert timers, and changes no state. -/
theorem State.pass_doorsStay (s : State) : s.DoorsStay s.pass where
  doors slot := by
    cases slot <;> simp [State.entrance, atSlot, State.pass, State.passInterlock, Entrance.pass, Function.comp_def]
  valve := rfl

/-- The commands that move an entrance or make its record: the entrance period, its timers' limits, and the resets. -/
def doorCommand : Instr → Bool
  | .powerOnReset _ | .serviceRestart _ | .entrancePeriod _ | .lockTimeout _ | .closeTimeout _ | .reopeningDone _ => true
  | _ => false

/-- Every other command leaves the entrances' states and the valve as they are. -/
theorem exec_doorsStay {c : Instr} (hc : doorCommand c = false) (h : exec c s = .next t) : s.DoorsStay t := by
  by_cases hq : quietCommand c = true
  · obtain ⟨-, -, -, hi⟩ := exec_quiet hq h
    exact .of_interlock hi
  cases c with
  | powerOnReset | serviceRestart | entrancePeriod | lockTimeout | closeTimeout | reopeningDone => exact nomatch hc
  | stateFrame | demandFrame | alertFrame | traceFrame | serviceReplyFrame | frameRejected | snapshot | readFaults
  | clearFaults | calibrateHeight | coilSweep | restart | unknownRequest =>
    refine holds_of_next h (.of_interlock (t := s.receive _ _) ?_)
    simp
  | sweepOrSkip | demandStale | demandLost =>
    exact holds_of_next h (.ite (.of_interlock (by simp)))
  | ladderPeriod => exact holds_of_next h (.of_interlock (by simp))
  | sweepStep =>
    refine holds_of_next h (.ite (.of_interlock ?_))
    split <;> simp
  | configurationImageRead =>
    exact holds_of_next h (.ite ⟨.of_records (by simp), by simp⟩)
  | entranceBreachRepeat slot =>
    exact holds_of_next h (.ite ⟨s.breachAlert_sameDoors slot, s.breachAlert_valve slot⟩)
  | demandComputation =>
    refine holds_of_next h (.ite ⟨.of_records ?_, ?_⟩) <;> simp [State.setLines]
  | _ => exact absurd rfl hq

/-! ### The commands that move an entrance -/

/-- Stages 3 to 5 and the sweep's watch leave the shut entrances shut. -/
theorem State.noneOpen_reported (hn : s.noneOpen = true) : s.entranceReport.checkSweep.noneOpen = true := by
  have hreport : s.entranceReport.noneOpen = true :=
    s.entranceReport_sameDoors.noneOpen (State.cfg_congr (by simp)) hn
  exact State.noneOpen_congr (State.cfg_congr (by simp)) (by simp) hreport

/-- An entrance period lets no entrance open in DRIVE or RAISE (R134). -/
theorem State.noneOpen_entrancePeriod (hm : s.ladder.mode = .drive ∨ s.ladder.mode = .raise) (hn : s.noneOpen = true)
    (i : Slots SlotInputs) : (s.entrancePeriod i).noneOpen = true := by
  unfold State.entrancePeriod
  split
  · have hread := State.noneOpen_readSlot (State.noneOpen_readSlot hn .zero i.zero) .one i.one
    have hzero := State.noneOpen_stepSlot hread (State.mayRelease_of_shut_mode (by simpa using hm)) .zero
    exact State.noneOpen_reported (State.noneOpen_stepSlot hzero (State.mayRelease_of_shut_mode (by simpa using hm)) .one)
  · exact hn

theorem State.noneOpen_finishSlot {slot : Slot} {a b : Entrance} (hn : s.noneOpen = true)
    (ha : s.entrance slot = some a) (hb : a.isOpenish = false → b.isOpenish = false) :
    (s.finishSlot slot a b).noneOpen = true :=
  State.noneOpen_reported (State.noneOpen_moveEntrance hn ha hb)

/-- The valve's rule holds after stage 4, and the sweep's watch leaves the interlock alone. -/
theorem State.reported_valveOk (s : State) : s.entranceReport.checkSweep.ValveOk :=
  (State.SameDoors.of_records (by simp)).valveOk (by simp) s.entranceReport_valveOk

/-- One entrance has finished its move, to a state that is open only if it was open before, or nothing has happened. -/
def State.SlotFinished (s : State) (slot : Slot) (t : State) : Prop :=
  t = s ∨ ∃ a b, s.entrance slot = some a ∧ (a.isOpenish = false → b.isOpenish = false) ∧ t = s.finishSlot slot a b

theorem State.SlotFinished.of_due {slot : Slot} {e e' : Entrance} {due : Bool} (he : s.entrance slot = some e)
    (hopen : due = true → e.isOpenish = false → e'.isOpenish = false) :
    s.SlotFinished slot (if due then s.finishSlot slot e e' else s) := by
  split
  · next hd => exact .inr ⟨e, e', he, hopen hd, rfl⟩
  · exact .inl rfl

theorem exec_lockTimeout_finishes {slot : Slot} (h : exec (.lockTimeout slot) s = .next t) : s.SlotFinished slot t := by
  refine holds_of_next h ?_
  split
  · next e he =>
    refine .of_due he fun hd _ => ?_
    rw [Entrance.timed_at_limit _ (by simp_all [Entrance.lockTimeoutDue])]
    rfl
  · exact .inl rfl

theorem exec_closeTimeout_finishes {slot : Slot} (h : exec (.closeTimeout slot) s = .next t) :
    s.SlotFinished slot t := by
  refine holds_of_next h ?_
  split
  · next e he =>
    refine .of_due he fun hd _ => ?_
    rw [Entrance.timed_at_limit _ (by simp_all [Entrance.closeTimeoutDue])]
    rfl
  · exact .inl rfl

/-- An OBSTRUCTED entrance is open before and after (R138). -/
theorem exec_reopeningDone_finishes {slot : Slot} (h : exec (.reopeningDone slot) s = .next t) :
    s.SlotFinished slot t := by
  refine holds_of_next h ?_
  split
  · next e he => exact .of_due he fun hd ho => by simp_all [Entrance.reopeningDue, Entrance.isOpenish]
  · exact .inl rfl

theorem State.SlotFinished.noneOpen {slot : Slot} (h : s.SlotFinished slot t) (hn : s.noneOpen = true) :
    t.noneOpen = true := by
  rcases h with rfl | ⟨a, b, ha, hb, rfl⟩
  · exact hn
  · exact State.noneOpen_finishSlot hn ha hb

theorem State.SlotFinished.valveOk {slot : Slot} (h : s.SlotFinished slot t) (hs : s.ValveOk) : t.ValveOk := by
  rcases h with rfl | ⟨a, b, -, -, rfl⟩
  · exact hs
  · exact State.reported_valveOk _

/-! ### Resets -/

/-- What a reset leaves is the reset state's, whatever pins it reads and whatever fault list it keeps (R163). -/
theorem State.resetWith_doorsOk (s : State) (pins : StrapPins) (f : FaultList) : (s.resetWith pins f).DoorsOk where
  waiting _ := ⟨rfl, rfl, rfl, .inl rfl⟩
  shut hm := by rcases hm with hm | hm <;> exact nomatch hm

theorem State.resetWith_valveOk (s : State) (pins : StrapPins) (f : FaultList) : (s.resetWith pins f).ValveOk := nofun

/-! ### Shut entrances in DRIVE and RAISE -/

/-- Where the standing stays, only the shut entrances are left to show. -/
theorem State.DoorsOk.of_standsAs (hs : s.DoorsOk) (h : s.StandsAs t)
    (hn : s.ladder.mode = .drive ∨ s.ladder.mode = .raise → s.noneOpen = true → t.noneOpen = true) : t.DoorsOk where
  waiting hl :=
    have hl' : s.loaded = false := (State.loaded_congr h.status).symm.trans hl
    h.waiting hl' (hs.waiting hl')
  shut hm := by
    rw [h.mode] at hm
    exact hn hm (hs.shut hm)

theorem State.DoorsOk.of_stay (hs : s.DoorsOk) (h : s.StandsAs t) (hd : s.DoorsStay t) : t.DoorsOk :=
  hs.of_standsAs h fun _ hn => hd.doors.noneOpen (State.cfg_congr h.config) hn

/-- The image read ends the state before the configuration, in START or BACKUP (R8, R16). -/
theorem State.DoorsOk.configured {image : List Byte} (hs : s.DoorsOk)
    (h : exec (.configurationImageRead image) s = .next t) : t.DoorsOk := by
  refine holds_of_next h ?_
  split
  · next hst =>
    have hl : s.loaded = false := by simpa [State.loaded] using hst
    have hloaded : (s.configure image).loaded = true := by
      simp only [State.loaded, State.configure, State.holdImage, State.firstState_frame, State.blocksStart_startUp]
      split <;> simp
    refine ⟨fun hf => by simp [hloaded] at hf, fun hm => ?_⟩
    rcases (hs.waiting hl).mode with hm' | hm' <;> simp [hm'] at hm
  · exact hs

/-- The edges into DRIVE and RAISE ask for entrances that are not open (R7, R11 to R13). -/
theorem State.edgeHolds_shut {m m' : Mode} (h : s.edgeHolds m m') (hm : m' = .drive ∨ m' = .raise) :
    s.noneOpen = true := by
  rw [State.noneOpen_iff]
  have hweaken {p : Entrance → Prop} (hp : ∀ e, p e → e.isOpenish = false) (ho : s.OwnEntrances p) :
      s.OwnEntrances fun e => e.isOpenish = false := fun slot hf =>
    let ⟨e, he, hpe⟩ := ho slot hf
    ⟨e, he, hp e hpe⟩
  have hlocked (e : Entrance) (hl : e.state = .locked) : e.isOpenish = false := by simp [Entrance.isOpenish, hl]
  rcases hm with rfl | rfl
  · cases m with
    | start =>
      obtain ⟨-, -, -, -, ho⟩ := h
      exact hweaken (fun e he => by simp_all [Entrance.isOpenish]) ho
    | stop =>
      obtain ⟨-, -, -, ho⟩ := h
      exact hweaken (fun e he => by rcases he with he | ⟨-, he | he⟩ <;> simp [Entrance.isOpenish, he]) ho
    | _ => exact h.elim
  · cases m with
    | kneel | knelt => exact hweaken hlocked h.2
    | _ => exact h.elim

/-- A ladder period goes to BACKUP, leaves the mode, or takes an edge whose condition holds (R2). -/
theorem State.ladderPeriod_mode_cases (s : State) : s.ladderPeriod.ladder.mode = .backup ∨
    s.ladderPeriod.ladder.mode = s.ladder.mode ∨
    s.ladderInputs.edgeHolds s.ladder.mode s.ladderPeriod.ladder.mode := by
  rw [State.ladderPeriod_ladder]
  by_cases hc : s.backupCause = false ∨ s.ladder.mode = .backup
  · rw [State.takeEdge_of_rung (s := s.ladderInputs) hc]
    by_cases hm : s.ladderInputs.edge = s.ladder.mode
    · exact .inr (.inl hm)
    · exact .inr (.inr ((State.edge_takes State.ladderInputs_target_ne_none _ hm).1 rfl))
  · simp only [not_or, Bool.not_eq_false] at hc
    rw [State.takeEdge_of_cause (s := s.ladderInputs) hc.1 hc.2]
    exact .inl rfl

/-- Before the configuration no edge leaves START or BACKUP: start-up is not done, and no FRESH record runs the recovery
timer (R6, R17). -/
theorem State.Waiting.not_edgeHolds (w : s.Waiting) (m : Mode) : ¬s.ladderInputs.edgeHolds s.ladder.mode m := by
  intro h
  rcases w.mode with hm | hm <;> rw [hm] at h
  · have hdone : s.startUp.done = true := by
      cases m with
      | park | stop | drive => exact h.1
      | _ => exact h.elim
    simp [w.done] at hdone
  · have hrec : s.recoveryAfter = 1000 := by
      cases m with
      | stop =>
        obtain ⟨-, -, htimer, -⟩ := h
        exact htimer
      | _ => exact h.elim
    simp [State.recoveryAfter_eq, hm, w.demand] at hrec

theorem State.Waiting.ladderPeriod (w : s.Waiting) : s.ladderPeriod.Waiting := by
  have hsweep : s.ladderInputs.takeEdge.sweeping = false := by
    simpa only [State.sweeping, State.takeEdge_frame, State.ladderInputs_startUp] using w.sweep
  have heq : s.ladderPeriod = s.ladderInputs.takeEdge := State.checkSweep_of_not_sweeping hsweep
  refine ⟨?_, ?_, heq ▸ hsweep, ?_⟩
  · simpa [State.demandFreshness] using w.demand
  · rw [heq]
    simpa using w.done
  · rcases s.ladderPeriod_mode_cases with hb | hm | he
    · exact .inr hb
    · exact hm ▸ w.mode
    · exact absurd he (w.not_edgeHolds _)

theorem State.DoorsOk.ladderPeriod (hs : s.DoorsOk) : s.ladderPeriod.DoorsOk where
  waiting hl := by
    have hstatus : s.ladderPeriod.startUp.status = s.startUp.status := by simp [State.ladderPeriod]
    exact (hs.waiting ((State.loaded_congr hstatus).symm.trans hl)).ladderPeriod
  shut hm := by
    have hconfig : s.ladderPeriod.startUp.config = s.startUp.config := by simp [State.ladderPeriod]
    refine State.noneOpen_congr (State.cfg_congr hconfig) (by simp) ?_
    rcases s.ladderPeriod_mode_cases with hb | hkept | he
    · rw [hb] at hm
      exact hm.elim nofun nofun
    · exact hs.shut (hkept ▸ hm)
    · exact State.edgeHolds_shut (s := s.ladderInputs) he hm

/-! ### Both promises -/

/-- Every command keeps the entrances shut in DRIVE and RAISE. -/
theorem exec_doorsOk (c : Instr) (s t : State) (hs : s.DoorsOk) (h : exec c s = .next t) : t.DoorsOk := by
  by_cases hc : standingCommand c = true
  · cases c with
    | powerOnReset pins => exact holds_of_next h (s.resetWith_doorsOk pins _)
    | serviceRestart pins =>
      refine holds_of_next h ?_
      split
      · exact s.resetWith_doorsOk pins _
      · exact hs
    | configurationImageRead => exact hs.configured h
    | ladderPeriod => exact holds_of_next h hs.ladderPeriod
    | _ => exact nomatch hc
  have hstands : s.StandsAs t := exec_standsAs (by simpa using hc) h
  by_cases hd : doorCommand c = true
  · refine hs.of_standsAs hstands fun hm hn => ?_
    cases c with
    | powerOnReset | serviceRestart => exact absurd rfl hc
    | entrancePeriod inputs =>
      exact holds_of_next (P := fun u => u.noneOpen = true) h (State.noneOpen_entrancePeriod hm hn inputs)
    | lockTimeout => exact (exec_lockTimeout_finishes h).noneOpen hn
    | closeTimeout => exact (exec_closeTimeout_finishes h).noneOpen hn
    | reopeningDone => exact (exec_reopeningDone_finishes h).noneOpen hn
    | _ => exact nomatch hd
  · exact hs.of_stay hstands (exec_doorsStay (by simpa using hd) h)

/-- Every command keeps the stop-brake valve energised while an entrance is open. -/
theorem exec_valveOk (c : Instr) (s t : State) (hs : s.ValveOk) (h : exec c s = .next t) : t.ValveOk := by
  by_cases hd : doorCommand c = true
  · cases c with
    | powerOnReset pins => exact holds_of_next h (s.resetWith_valveOk pins _)
    | serviceRestart pins =>
      refine holds_of_next h ?_
      split
      · exact s.resetWith_valveOk pins _
      · exact hs
    | entrancePeriod inputs =>
      refine holds_of_next h ?_
      unfold State.entrancePeriod
      split
      · exact State.reported_valveOk _
      · exact hs
    | lockTimeout => exact (exec_lockTimeout_finishes h).valveOk hs
    | closeTimeout => exact (exec_closeTimeout_finishes h).valveOk hs
    | reopeningDone => exact (exec_reopeningDone_finishes h).valveOk hs
    | _ => exact nomatch hd
  · have hstay := exec_doorsStay (by simpa using hd) h
    exact hstay.doors.valveOk hstay.valve hs

/-- A millisecond runs timers and ages alone. -/
theorem State.pass_standsAs (s : State) : s.StandsAs s.pass := by
  refine .of_same ?_ rfl rfl
  simp only [State.pass, Ladder.pass]
  split <;> rfl

/-- Settles O59: each promise by its commands, and by the passing of time. -/
theorem everyStepKeepsEntrancesSafe : Obligations.EveryStepKeepsEntrancesSafe :=
  ⟨fun _ _ => step_keeps (fun _ _ hs => hs.of_stay (.of_same rfl rfl rfl) (.of_interlock rfl))
      (fun s hs => hs.of_stay s.pass_standsAs s.pass_doorsStay) exec_doorsOk,
    fun _ _ => step_keeps (fun _ _ hs => hs)
      (fun s hs => s.pass_doorsStay.doors.valveOk s.pass_doorsStay.valve hs) exec_valveOk⟩

end Sys2Proof.Machine
end

section
/-! PROOFS. The reset state's values, and the passing of time: what a millisecond changes, and which commands it makes
due. -/

namespace Sys2Proof.Machine

variable {s : State}

/-! ### Reset -/

theorem State.reset_coil (i : Nat) : State.reset.coil i = .untested := by
  simp only [State.coil, List.getD_eq_getElem?_getD]
  rcases h : State.reset.startUp.coils.toList[i]? with _ | r
  · rfl
  · exact List.eq_of_mem_replicate (n := 10) (List.mem_of_getElem? h)

/-- Settles O4: the fields' defaults, block by block. -/
theorem resetLeavesTheManualsValues : Obligations.ResetLeavesTheManualsValues := by
  refine ⟨by decide, by decide, by decide, by decide, by decide, by decide, ⟨rfl, fun side => ?_⟩,
    ⟨fun side => ?_, by decide⟩, by decide, by decide, ⟨rfl, rfl, rfl, rfl, rfl, State.reset_coil⟩, by decide⟩
  · cases side <;> exact ⟨_, rfl, by decide⟩
  · cases side <;> exact ⟨_, rfl, by decide⟩

/-! ### What falls due -/

theorem mem_dueIf {b : Bool} {c d : Instr} : c ∈ dueIf b d ↔ b = true ∧ c = d := by
  cases b <;> simp [dueIf]

/-- The commands that time makes due, each with its condition in the model's own terms. -/
theorem State.mem_dueNow_iff (s : State) (c : Instr) : c ∈ s.dueNow ↔
    (∃ n, (s.peerStaleDue n && !s.peerLostDue n) = true ∧ c = .peerStale n) ∨
    (∃ n, s.peerLostDue n = true ∧ c = .peerLost n) ∨
    (∃ n, s.peerAbsentDue n = true ∧ c = .peerAbsentLimit n) ∨
    ((s.demandStaleDue && !s.demandLostDue) = true ∧ c = .demandStale) ∨
    (s.demandLostDue = true ∧ c = .demandLost) ∨ (s.demandAbsentDue = true ∧ c = .demandAbsentLimit) ∨
    (∃ a ∈ s.peerView.alerts, a.expired = true ∧ c = .alertExpiry a.code a.qualifier a.sender) ∨
    ((s.neverHeard && !s.ladder.noDemandCause) = true ∧ c = .startupTimerLimit) ∨
    (s.choiceDue = true ∧ c = .sweepOrSkip) ∨
    (s.jackknifeRepeatDue = true ∧ c = .jackknifeAlertRepeat) ∨
    (s.limitRepeatDue = true ∧ c = .jointLimitAlertRepeat) ∨
    (s.pinnedRepeatDue = true ∧ c = .steerPinnedRepeat) ∨
    (∃ side, s.degradedRepeatDue side = true ∧ c = .brakeDegradedRepeat side) ∨
    (∃ slot, s.breachRepeatDue slot = true ∧ c = .entranceBreachRepeat slot) ∨
    (s.link.queue.any Entry.promotionDue = true ∧ c = .statePromotion) ∨
    (s.stateTimerDue = true ∧ c = .stateTimer) ∨ (s.secondDue = true ∧ c = .secondsTick) ∨
    (s.restartDue = true ∧ c = .serviceRestart s.startUp.pins) ∨ (s.idleDue = true ∧ c = .linkIdle) := by
  have hside {P : Side → Prop} : (∃ side, P side) ↔ P .left ∨ P .right :=
    ⟨fun ⟨side, h⟩ => by cases side; exacts [.inl h, .inr h], fun h => h.elim (⟨_, ·⟩) (⟨_, ·⟩)⟩
  simp only [State.dueNow, State.duePeerView, State.duePeer, State.dueStartUp, State.dueAlerts, State.dueLink,
    List.mem_append, List.mem_flatMap, List.mem_finRange, true_and, mem_dueIf, exists_or, List.mem_map, List.mem_filter,
    and_assoc, or_assoc, hside, Slot.exists_iff, eq_comm (a := c)]

/-- What falls due is what the rules name (R8, R23, R28, R32, R56, R70, R108, R139, R155, R158, R161, R166, R172,
R177). -/
theorem State.mem_dueNow_iff_due (s : State) (c : Instr) : c ∈ s.dueNow ↔ s.Due c := by
  rw [State.mem_dueNow_iff]
  cases c with
  | peerStale n => grind [State.Due, State.peerStaleDue, State.peerLostDue]
  | peerLost n => simp [State.Due, State.peerLostDue, and_assoc]
  | peerAbsentLimit n => simp [State.Due, State.peerAbsentDue, and_assoc]
  | demandStale => grind [State.Due, State.demandStaleDue, State.demandLostDue]
  | demandLost => simp [State.Due, State.demandLostDue]
  | demandAbsentLimit => simp [State.Due, State.demandAbsentDue, and_assoc]
  | alertExpiry code q n => grind [State.Due, AlertEntry.expired]
  | startupTimerLimit => simp [State.Due, State.neverHeard, and_assoc]
  | sweepOrSkip => simp [State.Due, State.choiceDue, and_assoc]
  | jackknifeAlertRepeat => simp [State.Due, State.jackknifeRepeatDue]
  | jointLimitAlertRepeat => simp [State.Due, State.limitRepeatDue]
  | steerPinnedRepeat => simp [State.Due, State.pinnedRepeatDue]
  | brakeDegradedRepeat side => simp [State.Due, State.degradedRepeatDue]
  | entranceBreachRepeat slot =>
    grind [State.Due, State.breachRepeatDue, State.breachAlertHolds, Entrance.isBreach]
  | statePromotion => simp [State.Due, Entry.promotionDue, and_assoc]
  | stateTimer => simp [State.Due, State.stateTimerDue, and_assoc]
  | secondsTick => simp [State.Due, State.secondDue]
  | serviceRestart pins => simp [State.Due, State.restartDue, and_assoc]
  | linkIdle => grind [State.Due, State.idleDue, Link.maySend, Link.sending]
  | _ => simp [State.Due]

/-! ### What a millisecond changes -/

theorem bump_eq_min {n : Nat} (h : n ≤ 65535) : bump n = min 65535 (n + 1) := by
  unfold bump; split <;> omega

theorem State.pass_peer (s : State) (n : Fin 8) :
    s.pass.peer n = if s.isPeer n = true then { s.peer n with age := bump (s.peer n).age } else s.peer n := by
  simp [State.peer, State.pass, State.agePeerView, State.agePeers]

theorem State.pass_entrance (s : State) (slot : Slot) :
    s.pass.entrance slot = (s.entrance slot).map fun e => { e with alertTimer := e.alertTimer - 1 } := by
  cases slot <;> rfl

/-- The start-up timer runs in START alone (R6, R8). -/
theorem Ladder.pass_eq (l : Ladder) : l.pass = { l with
    startupTimer := if l.mode = .start then bump l.startupTimer else l.startupTimer } := by
  by_cases h : l.mode = .start <;> simp [Ladder.pass, h]

/-- The STATE timer runs on a station that may send (R160, R161). -/
theorem State.passLink_eq (s : State) : s.passLink = { s.link with
    stateTimer := if s.loaded = true ∧ s.link.listenOnly = false then s.link.stateTimer - 1 else s.link.stateTimer
    queue := s.link.queue.map fun e => { e with time := bump e.time } } := by
  simp [State.passLink]

/-- With something due it joins the queue, and no time passes. -/
theorem State.tick_of_due (h : s.dueNow ≠ []) : s.tick = { s with pending := s.dueNow } := by
  simp [State.tick, List.isEmpty_iff, h]

theorem State.tick_of_nothing_due (h : s.dueNow = []) : s.tick = { s.pass with pending := s.pass.dueNow } := by
  simp [State.tick, h]

theorem step_of_empty_queue (h : s.pending = []) : step s = .next s.tick := by
  simp [step, h]

/-- Settles O2: a tick by what is due, the due commands by their conditions, a millisecond block by block. -/
theorem emptyQueueLetsTimePass : Obligations.EmptyQueueLetsTimePass := by
  refine ⟨fun n => bump_eq_min, fun s => ⟨fun hq => ⟨fun hd => ?_, fun hd => ?_⟩, s.mem_dueNow_iff_due, s.pass_peer,
    s.pass_entrance, ?_⟩⟩
  · rw [step_of_empty_queue hq, State.tick_of_due hd]
  · rw [step_of_empty_queue hq, State.tick_of_nothing_due hd]
  · rw [← s.ladder.pass_eq, ← s.passLink_eq]
    rfl

end Sys2Proof.Machine
end

section
/-! PROOFS. The fault list and the remote alert set as lists of records without a repeated key: what raising and ending
a fault, taking an ALERT, its expiry and the passing of time leave of them. -/

namespace Sys2Proof.Machine

/-! ### The fault list -/

/-- What a record of the fault list is looked up by (R171). -/
def FaultRecord.key (r : FaultRecord) : FaultCode × Nat := (r.code, r.qualifier)

theorem FaultRecord.is_iff (r : FaultRecord) (c : FaultCode) (q : Nat) : r.is c q = true ↔ r.key = (c, q) := by
  simp [FaultRecord.is, FaultRecord.key]

theorem FaultList.listOk_iff (f : FaultList) : f.ListOk ↔
    f.records.length ≤ 16 ∧ (f.records.map FaultRecord.key).Nodup ∧ ∀ r ∈ f.records, 1 ≤ r.count ∧ r.count ≤ 255 := by
  have hkeys : (f.records.map FaultRecord.key).Nodup ↔
      f.records.Pairwise fun a b => ¬(a.code = b.code ∧ a.qualifier = b.qualifier) := by
    simp only [List.Nodup, List.pairwise_map, FaultRecord.key, Ne, Prod.mk.injEq]
  rw [hkeys]
  exact ⟨fun ⟨hd, hp, hc⟩ => ⟨hd, hp, hc⟩, fun ⟨hd, hp, hc⟩ => ⟨hd, hp, hc⟩⟩

theorem FaultList.ListOk.of_sublist {f g : FaultList} (h : f.ListOk) (hs : g.records.Sublist f.records) : g.ListOk := by
  rw [FaultList.listOk_iff] at h ⊢
  obtain ⟨hlen, hkeys, hcounts⟩ := h
  exact ⟨hs.length_le.trans hlen, hkeys.sublist (hs.map _), fun r hr => hcounts r (hs.subset hr)⟩

/-- Records may change in place: their keys stay, and their counts stay within 1..255. -/
theorem FaultList.ListOk.of_map {f g : FaultList} (h : f.ListOk) {m : FaultRecord → FaultRecord}
    (hg : g.records = f.records.map m) (hkey : ∀ r, (m r).key = r.key)
    (hcount : ∀ r, 1 ≤ r.count → r.count ≤ 255 → 1 ≤ (m r).count ∧ (m r).count ≤ 255) : g.ListOk := by
  rw [FaultList.listOk_iff] at h ⊢
  obtain ⟨hlen, hkeys, hcounts⟩ := h
  have hsame : FaultRecord.key ∘ m = FaultRecord.key := funext hkey
  refine ⟨by simpa [hg] using hlen, by simpa [hg, hsame] using hkeys, fun r hr => ?_⟩
  obtain ⟨r', hr', rfl⟩ : ∃ r' ∈ f.records, m r' = r := by simpa [hg] using hr
  exact hcount r' (hcounts r' hr').1 (hcounts r' hr').2

/-- A new record joins the rest of a list that has no record of its key. -/
theorem FaultList.ListOk.of_new {f g : FaultList} (h : f.ListOk) {kept : List FaultRecord} {c : FaultCode} {q : Nat}
    (hg : g.records = kept ++ [⟨c, q, f.seconds, 1, true⟩]) (hs : kept.Sublist f.records) (hroom : kept.length < 16)
    (hnew : f.records.any (·.is c q) = false) : g.ListOk := by
  have hkept := (FaultList.listOk_iff _).1 (h.of_sublist (g := { f with records := kept }) hs)
  obtain ⟨-, hkeys, hcounts⟩ := hkept
  rw [FaultList.listOk_iff, hg]
  refine ⟨by simpa using hroom, ?_, ?_⟩
  · have habsent : ∀ r ∈ kept, r.key ≠ (c, q) := by
      simp only [List.any_eq_false, FaultRecord.is_iff] at hnew
      exact fun r hr => hnew r (hs.subset hr)
    simpa [List.nodup_append, FaultRecord.key] using
      ⟨hkeys, fun r hr hc hq => habsent r hr (by simp [FaultRecord.key, hc, hq])⟩
  · intro r hr
    rcases List.mem_append.1 hr with hr | hr
    · exact hcounts r hr
    · obtain rfl := List.mem_singleton.1 hr
      simp

/-- A fault raised (R171): counted in its record, or entered as a new one, in the place of the oldest inactive record of
a full list. -/
@[simp] theorem FaultList.ListOk.raise {f : FaultList} (h : f.ListOk) (c : FaultCode) (q : Nat) : (f.raise c q).ListOk := by
  unfold FaultList.raise
  split
  · refine h.of_map rfl (fun r => ?_) fun r h1 h255 => ?_
    · split <;> rfl
    · split
      · simp only [growTo]
        split <;> omega
      · exact ⟨h1, h255⟩
  next hnew =>
  have hnew' : f.records.any (·.is c q) = false := by simpa using hnew
  split
  · next hroom => exact h.of_new rfl (.refl _) hroom hnew'
  split
  · next hinactive =>
    refine h.of_new rfl (List.eraseP_sublist) ?_ hnew'
    obtain ⟨r, hr, hi⟩ := List.any_eq_true.1 hinactive
    have hlen := List.length_eraseP_of_mem (p := fun r => !r.active) hr hi
    have := h.depth
    have := List.length_pos_of_mem hr
    omega
  · exact ⟨h.depth, h.distinct, h.counts⟩

@[simp] theorem FaultList.ListOk.finish {f : FaultList} (h : f.ListOk) (c : FaultCode) (q : Nat) :
    (f.finish c q).ListOk := by
  refine h.of_map rfl (fun r => ?_) fun r h1 h255 => ?_
  · split <;> rfl
  · split <;> exact ⟨h1, h255⟩

/-! ### The remote alert set -/

/-- What an entry of the alert set is looked up by (R31). -/
def AlertEntry.key (a : AlertEntry) : AlertCode × Byte × Fin 8 := (a.code, a.qualifier, a.sender)

theorem AlertEntry.is_iff (a : AlertEntry) (c : AlertCode) (q : Byte) (n : Fin 8) :
    a.is c q n = true ↔ a.code = c ∧ a.qualifier = q ∧ a.sender = n := by
  simp [AlertEntry.is, and_assoc]

theorem PeerView.alertsOk_iff (p : PeerView) :
    p.AlertsOk ↔ p.alerts.length ≤ 16 ∧ (p.alerts.map AlertEntry.key).Nodup := by
  have hkeys : (p.alerts.map AlertEntry.key).Nodup ↔
      p.alerts.Pairwise fun a b => ¬(a.code = b.code ∧ a.qualifier = b.qualifier ∧ a.sender = b.sender) := by
    simp only [List.Nodup, List.pairwise_map, AlertEntry.key, Ne, Prod.mk.injEq]
  rw [hkeys]
  exact ⟨fun ⟨hd, hp⟩ => ⟨hd, hp⟩, fun ⟨hd, hp⟩ => ⟨hd, hp⟩⟩

theorem PeerView.AlertsOk.congr {p p' : PeerView} (h : p.AlertsOk) (ha : p'.alerts = p.alerts) : p'.AlertsOk := by
  rw [PeerView.alertsOk_iff] at h ⊢
  rwa [ha]

theorem PeerView.AlertsOk.of_sublist {p p' : PeerView} (h : p.AlertsOk) (hs : p'.alerts.Sublist p.alerts) :
    p'.AlertsOk := by
  rw [PeerView.alertsOk_iff] at h ⊢
  obtain ⟨hlen, hkeys⟩ := h
  exact ⟨hs.length_le.trans hlen, hkeys.sublist (hs.map _)⟩

/-- The ages may change in place. -/
theorem PeerView.AlertsOk.of_ages {p p' : PeerView} (h : p.AlertsOk) {m : AlertEntry → AlertEntry}
    (hm : p'.alerts = p.alerts.map m) (hkey : ∀ a, (m a).key = a.key) : p'.AlertsOk := by
  rw [PeerView.alertsOk_iff] at h ⊢
  obtain ⟨hlen, hkeys⟩ := h
  have hsame : AlertEntry.key ∘ m = AlertEntry.key := funext hkey
  exact ⟨by simpa [hm] using hlen, by simpa [hm, hsame] using hkeys⟩

/-- A new entry joins the rest of a set that has none of its key. -/
theorem PeerView.AlertsOk.of_new {p p' : PeerView} (h : p.AlertsOk) {kept : List AlertEntry} {c : AlertCode} {q : Byte}
    {n : Fin 8} (hp : p'.alerts = kept ++ [⟨c, q, n, 0⟩]) (hs : kept.Sublist p.alerts) (hroom : kept.length < 16)
    (hnew : p.alerts.any (·.is c q n) = false) : p'.AlertsOk := by
  have hkept := (PeerView.alertsOk_iff _).1 (h.of_sublist (p' := { p with alerts := kept }) hs)
  obtain ⟨-, hkeys⟩ := hkept
  rw [PeerView.alertsOk_iff, hp]
  refine ⟨by simpa using hroom, ?_⟩
  have habsent : ∀ a ∈ kept, a.key ≠ (c, q, n) := by
    simp only [List.any_eq_false, AlertEntry.is_iff] at hnew
    intro a ha hk
    simp only [AlertEntry.key, Prod.mk.injEq] at hk
    exact hnew a (hs.subset ha) hk
  simpa [List.nodup_append, AlertEntry.key] using
    ⟨hkeys, fun a ha hc hq hn => habsent a ha (by simp [AlertEntry.key, hc, hq, hn])⟩

/-! ### The entry closest to expiry -/

theorem alertOfNumber_alertNumber (c : AlertCode) : alertOfNumber (alertNumber c) = some c := by cases c <;> rfl

theorem alertNumber_injective {c d : AlertCode} (h : alertNumber c = alertNumber d) : c = d := by
  simpa [alertOfNumber_alertNumber] using congrArg alertOfNumber h

/-- The order in which a full set gives up its entries, as the statements speak of it (R31). -/
theorem AlertEntry.before_iff (a b : AlertEntry) : a.before b = true ↔ a.goesBefore b := by
  unfold AlertEntry.before AlertEntry.goesBefore
  by_cases hage : a.age = b.age
  · by_cases hcode : a.code = b.code
    · by_cases hqual : a.qualifier = b.qualifier
      · simp [hage, hcode, hqual]
      · simp [hage, hcode, hqual]
    · simp [hage, hcode]
  · simp [hage, Ne.symm hage]

/-- The figures the order looks at, one after the other. -/
def AlertEntry.rank (a : AlertEntry) : ℕᵒᵈ ×ₗ Nat ×ₗ Nat ×ₗ Nat :=
  toLex (OrderDual.toDual a.age, toLex (alertNumber a.code, toLex (a.qualifier.toNat, a.sender.val)))

theorem AlertEntry.goesBefore_iff (a b : AlertEntry) : a.goesBefore b ↔ a.rank < b.rank := by
  have hcode : a.code = b.code ↔ alertNumber a.code = alertNumber b.code := ⟨congrArg _, alertNumber_injective⟩
  have hage : a.age = b.age ↔ b.age = a.age := eq_comm
  simp [AlertEntry.goesBefore, AlertEntry.rank, Prod.Lex.toLex_lt_toLex, hcode, hage, BitVec.toNat_inj]

theorem AlertEntry.rank_injective : Function.Injective AlertEntry.rank := by
  intro a b h
  obtain ⟨hage, hcode, hqual, hsender⟩ : a.age = b.age ∧ alertNumber a.code = alertNumber b.code ∧
      a.qualifier.toNat = b.qualifier.toNat ∧ a.sender.val = b.sender.val := by
    simpa [AlertEntry.rank] using h
  cases a
  cases b
  simp only [AlertEntry.mk.injEq]
  exact ⟨alertNumber_injective hcode, BitVec.eq_of_toNat_eq hqual, Fin.ext hsender, hage⟩

theorem closestToExpiry_eq_none {set : List AlertEntry} : closestToExpiry set = none ↔ set = [] := by
  cases set with
  | nil => simp [closestToExpiry]
  | cons a rest =>
    simp only [closestToExpiry, reduceCtorEq, iff_false]
    split
    · simp
    · split <;> simp

/-- The entry closest to expiry is one of the set, and goes before every other (R31). -/
theorem closestToExpiry_eq_some {set : List AlertEntry} {v : AlertEntry} (h : closestToExpiry set = some v) :
    v ∈ set ∧ ∀ a ∈ set, v.rank ≤ a.rank := by
  induction set generalizing v with
  | nil => simp [closestToExpiry] at h
  | cons a rest ih =>
    rw [closestToExpiry] at h
    split at h
    · next hnone =>
      obtain rfl := closestToExpiry_eq_none.1 hnone
      obtain rfl := Option.some.inj h
      simp
    · next b hb =>
      obtain ⟨hmem, hleast⟩ := ih hb
      have hbefore := (b.before_iff a).trans (b.goesBefore_iff a)
      split at h
      · next hba =>
        obtain rfl := Option.some.inj h
        exact ⟨.tail _ hmem, List.forall_mem_cons.2 ⟨(hbefore.1 hba).le, hleast⟩⟩
      · next hba =>
        obtain rfl := Option.some.inj h
        have hle : a.rank ≤ b.rank := not_lt.1 (mt hbefore.2 hba)
        exact ⟨.head _, List.forall_mem_cons.2 ⟨le_rfl, fun x hx => hle.trans (hleast x hx)⟩⟩

/-! ### An ALERT taken into the set -/

/-- The three ways of a good ALERT into the set: its entry refreshed, a free place, the place of the entry closest to
expiry (R31). -/
theorem refreshAlerts_cases (set : List AlertEntry) (c : AlertCode) (q : Byte) (n : Fin 8) :
    (set.any (·.is c q n) = true ∧
      refreshAlerts set c q n = (set.map fun a => if a.is c q n then { a with age := 0 } else a, false)) ∨
    (set.any (·.is c q n) = false ∧ set.length < 16 ∧ refreshAlerts set c q n = (set ++ [⟨c, q, n, 0⟩], false)) ∨
    (set.any (·.is c q n) = false ∧ 16 ≤ set.length ∧ ∃ v ∈ set, (∀ a ∈ set, v.rank ≤ a.rank) ∧
      refreshAlerts set c q n = (set.erase v ++ [⟨c, q, n, 0⟩], true)) := by
  unfold refreshAlerts
  split
  · next hold => exact .inl ⟨hold, rfl⟩
  next hnew =>
  have hnew' : set.any (·.is c q n) = false := by simpa using hnew
  split
  · next hroom => exact .inr (.inl ⟨hnew', hroom, rfl⟩)
  next hfull =>
  split
  · next hnone => simp [closestToExpiry_eq_none.1 hnone] at hfull
  · next v hv =>
    obtain ⟨hmem, hleast⟩ := closestToExpiry_eq_some hv
    exact .inr (.inr ⟨hnew', by omega, v, hmem, hleast, rfl⟩)

theorem PeerView.AlertsOk.refresh {p p' : PeerView} (h : p.AlertsOk) {c : AlertCode} {q : Byte} {n : Fin 8}
    (hp : p'.alerts = (refreshAlerts p.alerts c q n).1) : p'.AlertsOk := by
  rcases refreshAlerts_cases p.alerts c q n with ⟨-, hr⟩ | ⟨hnew, hroom, hr⟩ | ⟨hnew, hfull, v, hv, -, hr⟩
  · refine h.of_ages (hp.trans (by rw [hr])) fun a => ?_
    split <;> rfl
  · exact h.of_new (hp.trans (by rw [hr])) (.refl _) hroom hnew
  · refine h.of_new (hp.trans (by rw [hr])) List.erase_sublist ?_ hnew
    have hlen := List.length_erase_of_mem hv
    have := h.depth
    have := List.length_pos_of_mem hv
    omega

end Sys2Proof.Machine
end

section
/-! PROOFS. Every step keeps the rules of the fault list and of the remote alert set: the fault list through each
operation that reports a fault, the alerts through reception, expiry and time. -/

namespace Sys2Proof.Machine

variable {s t : State}

/-! ### The fault list through the operations that report faults -/

section
variable (h : s.faults.ListOk)
include h

@[simp] theorem State.sensorFault_listOk (e : SensorEvent) (c : FaultCode) (q : Nat) :
    (s.sensorFault e c q).faults.ListOk := by
  cases e <;> simp [State.sensorFault, h]

@[simp] theorem State.takeJointReading_listOk (v : Microvolt) : (s.takeJointReading v).faults.ListOk := by
  unfold State.takeJointReading
  (repeat' split) <;> simp [h]

@[simp] theorem State.steerStage1_listOk (v : Microvolt) : (s.steerStage1 v).faults.ListOk := by
  simp only [State.steerStage1]
  (repeat' split) <;> simp [h]

@[simp] theorem State.countTracking_listOk : s.countTracking.faults.ListOk := by
  unfold State.countTracking
  (repeat' split) <;> simp [h]

@[simp] theorem State.steerStage5_listOk : s.steerStage5.faults.ListOk := by
  unfold State.steerStage5
  (repeat' split) <;> simp [h]

@[simp] theorem State.completeStep_listOk (v : Microvolt) : (s.completeStep v).faults.ListOk := by
  unfold State.completeStep
  split <;> simp [h]

@[simp] theorem State.tracePulse_listOk (v : Microvolt) : (s.tracePulse v).faults.ListOk := by
  unfold State.tracePulse
  (repeat' split) <;> simp [h]

@[simp] theorem State.pathGrows_listOk (q : List Sample) : (s.pathGrows q).faults.ListOk := by
  simp only [State.pathGrows]
  split <;> simp [h]

@[simp] theorem State.breakPath_listOk (i : Half) (k : Int) (q : Nat) : (s.breakPath i k q).faults.ListOk := by
  simp [State.breakPath, h]

@[simp] theorem State.olderArrival_listOk (i : Half) (k : Int) : (s.olderArrival i k).faults.ListOk := by
  unfold State.olderArrival
  split <;> simp [h]

@[simp] theorem State.traceArrival_listOk (i : Half) (k : Int) : (s.traceArrival i k).faults.ListOk := by
  simp only [State.traceArrival]
  (repeat' split) <;> simp [h]

@[simp] theorem State.takeTrace_listOk (p : List Byte) : (s.takeTrace p).faults.ListOk := by
  unfold State.takeTrace
  (repeat' split) <;> simp [h]

@[simp] theorem State.takeState_listOk (n : Fin 8) (p : List Byte) : (s.takeState n p).faults.ListOk := by
  unfold State.takeState
  split <;> simp [h]

@[simp] theorem State.acceptDemand_listOk (v : DemandValues) : (s.acceptDemand v).faults.ListOk := by
  simp [State.acceptDemand, State.freshenDemand, h]

@[simp] theorem State.takeDemand_listOk (p : List Byte) : (s.takeDemand p).faults.ListOk := by
  unfold State.takeDemand
  split <;> simp [h]

@[simp] theorem State.duplicateHeard_listOk : s.duplicateHeard.faults.ListOk := by
  simp [State.duplicateHeard, h]

@[simp] theorem State.readChamber_listOk (side : Side) (v : Microvolt) : (s.readChamber side v).faults.ListOk := by
  simp [State.readChamber, h]

@[simp] theorem State.pedalFault_listOk (a b : Bool) (q : Nat) : (s.pedalFault a b q).faults.ListOk := by
  unfold State.pedalFault
  (repeat' split) <;> simp [h]

@[simp] theorem State.readPedals_listOk (p : Pedals) : (s.readPedals p).faults.ListOk := by
  unfold State.readPedals
  split
  · exact h
  · exact State.pedalFault_listOk (by simp [h]) _ _ _

@[simp] theorem State.readHeight_listOk (side : Side) (v : Microvolt) : (s.readHeight side v).faults.ListOk := by
  exact State.sensorFault_listOk (s := s.putCorner side _) h _ _ _

@[simp] theorem State.readBellows_listOk (side : Side) (v : Microvolt) : (s.readBellows side v).faults.ListOk := by
  exact State.sensorFault_listOk (s := s.putCorner side _) h _ _ _

@[simp] theorem State.readSupply_listOk (v : Microvolt) : (s.readSupply v).faults.ListOk := by
  unfold State.readSupply
  split <;> simp [h]

@[simp] theorem State.levelStage1_listOk (r : LevelReadings) : (s.levelStage1 r).faults.ListOk := by
  have hheights := State.readHeight_listOk (State.readHeight_listOk h .left r.height.left) .right r.height.right
  exact State.readSupply_listOk (State.readBellows_listOk (State.readBellows_listOk hheights .left _) .right _) _

@[simp] theorem State.runRaiseTimer_listOk : s.runRaiseTimer.faults.ListOk := by
  simp only [State.runRaiseTimer]
  (repeat' split) <;> simp [h]

@[simp] theorem State.moveEntrance_listOk (slot : Slot) (a b : Entrance) :
    (s.moveEntrance slot a b).faults.ListOk := by
  unfold State.moveEntrance State.entranceFault
  (repeat' split) <;> simp [h]

@[simp] theorem State.stepSlot_listOk (slot : Slot) : (s.stepSlot slot).faults.ListOk := by
  unfold State.stepSlot
  (repeat' split) <;> simp [h]

@[simp] theorem State.finishSlot_listOk (slot : Slot) (a b : Entrance) : (s.finishSlot slot a b).faults.ListOk := by
  simp [State.finishSlot, h]

@[simp] theorem State.ackMissed_listOk : s.ackMissed.faults.ListOk := by
  simp only [State.ackMissed]
  split <;> simp [h]

@[simp] theorem State.frameSent_listOk (acked : Bool) : (s.frameSent acked).faults.ListOk := by
  unfold State.frameSent
  split
  · simp [State.ackHeard, h]
  · simpa using State.ackMissed_listOk (by exact h)

@[simp] theorem State.configure_listOk (image : List Byte) : (s.configure image).faults.ListOk := by
  unfold State.configure State.holdImage
  split <;> simp [h]

@[simp] theorem State.recordCoil_listOk (i : Nat) (r : CoilResult) : (s.recordCoil i r).faults.ListOk := by
  unfold State.recordCoil
  split <;> simp [h]

@[simp] theorem State.sweepStep_listOk (f : Bool) : (s.sweepStep f).faults.ListOk := by
  simp only [State.sweepStep]
  split <;> simp [h]

@[simp] theorem State.serveClearFaults_listOk (n : Fin 8) : (s.serveClearFaults n).faults.ListOk := by
  simpa [State.serveClearFaults] using h.of_sublist (g := s.faults.cleared) List.filter_sublist

@[simp] theorem State.servePayload_listOk (n : Fin 8) (p : List Byte) : (s.servePayload n p).faults.ListOk := by
  unfold State.servePayload State.serve State.carry
  (repeat' split) <;> simp [h]

@[simp] theorem State.screen_listOk (k : Kind) (a : Address) (p : List Byte) : (s.screen k a p).faults.ListOk := by
  unfold State.screen State.route State.routeRequest State.takeRequest
  (repeat' split) <;> simp [h]

@[simp] theorem State.receive_listOk (head : RawHead) (p : List Byte) : (s.receive head p).faults.ListOk := by
  unfold State.receive State.accept
  (repeat' split) <;> simp [h]

end

/-! ### The commands that touch the fault list -/

/-- A service restart keeps every record, inactive (R172). -/
theorem FaultList.ListOk.kept {f : FaultList} (h : f.ListOk) : f.kept.ListOk :=
  h.of_map rfl (fun _ => rfl) fun _ h1 h255 => ⟨h1, h255⟩

theorem FaultList.ListOk.empty : ({} : FaultList).ListOk := ⟨by decide, .nil, nofun⟩

theorem FaultList.ListOk.of_records {f g : FaultList} (h : f.ListOk) (hr : g.records = f.records) : g.ListOk :=
  h.of_sublist (hr ▸ .refl _)

theorem listOk_of_next {u : State} (h : (.next u : Host.Outcome State Fault Refusal) = .next t)
    (hu : u.faults.ListOk) : t.faults.ListOk :=
  holds_of_next (P := fun v => v.faults.ListOk) h hu

/-- A guarded command keeps the rule when its effect does. -/
theorem FaultList.ListOk.ite {c : Bool} (h : s.faults.ListOk) (ht : t.faults.ListOk) :
    (if c then t else s).faults.ListOk := by
  split
  · exact ht
  · exact h

/-- Every command keeps the fault list's rule: resets, frames, whole periods, the entrances' timers, and the moments with
a guard. -/
theorem exec_listOk (c : Instr) (s t : State) (hs : s.faults.ListOk) (h : exec c s = .next t) : t.faults.ListOk := by
  cases c with
  | powerOnReset => exact listOk_of_next h .empty
  | serviceRestart => exact listOk_of_next h (hs.ite hs.kept)
  | secondsTick => exact listOk_of_next h (hs.ite (hs.of_records rfl))
  | stateFrame | demandFrame | alertFrame | traceFrame | serviceReplyFrame | frameRejected | snapshot | readFaults
  | clearFaults | calibrateHeight | coilSweep | restart | unknownRequest =>
    exact listOk_of_next h (State.receive_listOk hs _ _)
  | ladderPeriod | trackerPeriod | slipPeriod => exact listOk_of_next h (by simp [hs])
  | alertExpiry | linkIdle | statePromotion | frameCheckError | frameFormatError => exact listOk_of_next h hs
  | wheelPulse => exact listOk_of_next h (State.tracePulse_listOk (s := s.putWheel _ _) hs _)
  | steeringPeriod =>
    refine listOk_of_next h (hs.ite ?_)
    simpa using State.steerStage5_listOk (by simp [hs])
  | jointPeriod => exact listOk_of_next h (hs.ite (by simp [hs]))
  | brakePeriod =>
    refine listOk_of_next h (hs.ite ?_)
    simpa using State.readPedals_listOk (State.readChamber_listOk (State.readChamber_listOk hs _ _) _ _) _
  | levellingPeriod =>
    refine listOk_of_next h (hs.ite ?_)
    simpa using State.runRaiseTimer_listOk (by simp [hs])
  | entrancePeriod =>
    refine listOk_of_next h (hs.ite ?_)
    simpa using State.stepSlot_listOk (State.stepSlot_listOk (by simp [hs]) _) _
  | lockTimeout | closeTimeout | reopeningDone =>
    refine listOk_of_next h ?_
    split
    · exact hs.ite (by simp [hs])
    · exact hs
  | sweepStep =>
    refine listOk_of_next h (hs.ite ?_)
    split <;> simp [hs]
  | demandComputation =>
    refine listOk_of_next h (hs.ite ?_)
    simpa [State.runDemand] using State.acceptDemand_listOk (by simpa using hs) _
  | _ => exact listOk_of_next h (hs.ite (by simp [hs]))

/-! ### The alerts through the operations of the peer view -/

@[simp] theorem State.takeState_alerts (s : State) (n : Fin 8) (p : List Byte) :
    (s.takeState n p).peerView.alerts = s.peerView.alerts := by
  unfold State.takeState
  split <;> rfl

@[simp] theorem State.acceptDemand_alerts (s : State) (v : DemandValues) :
    (s.acceptDemand v).peerView.alerts = s.peerView.alerts := by
  simp [State.acceptDemand, State.freshenDemand]

@[simp] theorem State.takeDemand_alerts (s : State) (p : List Byte) :
    (s.takeDemand p).peerView.alerts = s.peerView.alerts := by
  unfold State.takeDemand
  split
  · rfl
  · simp

@[simp] theorem State.duplicateHeard_alerts (s : State) : s.duplicateHeard.peerView.alerts = s.peerView.alerts := by
  simp [State.duplicateHeard]

@[simp] theorem State.runDemand_alerts (s : State) (w : Switches) :
    (s.runDemand w).peerView.alerts = s.peerView.alerts := by
  simp [State.runDemand]

theorem State.takeAlert_alertsOk (h : s.peerView.AlertsOk) (n : Fin 8) (p : List Byte) :
    (s.takeAlert n p).peerView.AlertsOk := by
  unfold State.takeAlert
  split
  · exact h.congr rfl
  · exact h.refresh rfl

/-- Past screening an ALERT alone reaches the set (R20). -/
theorem State.screen_alertsOk (h : s.peerView.AlertsOk) (k : Kind) (a : Address) (p : List Byte) :
    (s.screen k a p).peerView.AlertsOk := by
  unfold State.screen
  split
  · exact h.congr (by simp)
  split
  · exact h.congr rfl
  split
  · exact h
  cases k with
  | alert => exact State.takeAlert_alertsOk h _ _
  | state | serviceReq | serviceReply => exact h.congr (by simp [State.route])
  | demand | trace =>
    simp only [State.route]
    split
    · exact h.congr (by simp)
    · exact h.congr rfl

theorem State.accept_alertsOk (h : s.peerView.AlertsOk) (k : Kind) (a : Address) (p : List Byte) :
    (s.accept k a p).peerView.AlertsOk := by
  unfold State.accept
  split
  · exact State.screen_alertsOk (by exact h) _ _ _
  · exact h

theorem State.receive_alertsOk (h : s.peerView.AlertsOk) (head : RawHead) (p : List Byte) :
    (s.receive head p).peerView.AlertsOk := by
  unfold State.receive
  split
  · split
    · split
      · exact State.accept_alertsOk (s := s.acknowledge) h _ _ _
      · exact h
    · exact h
  · exact h

/-! ### The commands that touch the alerts -/

theorem PeerView.AlertsOk.empty : ({} : PeerView).AlertsOk := ⟨by decide, .nil⟩

theorem alertsOk_of_next {u : State} (h : (.next u : Host.Outcome State Fault Refusal) = .next t)
    (hu : u.peerView.AlertsOk) : t.peerView.AlertsOk :=
  holds_of_next (P := fun v => v.peerView.AlertsOk) h hu

theorem PeerView.AlertsOk.ite {c : Bool} (h : s.peerView.AlertsOk) (ht : t.peerView.alerts = s.peerView.alerts) :
    (if c then t else s).peerView.AlertsOk := by
  split
  · exact h.congr ht
  · exact h

/-- Every command keeps the alert set's rule: resets empty the set, a frame may refresh it, the expiry removes from it,
and no other command touches it. -/
theorem exec_alertsOk (c : Instr) (s t : State) (hs : s.peerView.AlertsOk) (h : exec c s = .next t) :
    t.peerView.AlertsOk := by
  cases c with
  | powerOnReset => exact alertsOk_of_next h .empty
  | serviceRestart =>
    refine alertsOk_of_next h ?_
    split
    · exact .empty
    · exact hs
  | stateFrame | demandFrame | alertFrame | traceFrame | serviceReplyFrame | frameRejected | snapshot | readFaults
  | clearFaults | calibrateHeight | coilSweep | restart | unknownRequest =>
    exact alertsOk_of_next h (State.receive_alertsOk hs _ _)
  | alertExpiry => exact alertsOk_of_next h (hs.of_sublist List.filter_sublist)
  | linkIdle | statePromotion | frameCheckError | frameFormatError => exact alertsOk_of_next h hs
  | ladderPeriod | trackerPeriod | steeringPeriod | jointPeriod | brakePeriod | slipPeriod | levellingPeriod
  | entrancePeriod | wheelPulse => exact alertsOk_of_next h (hs.congr (by simp))
  | lockTimeout | closeTimeout | reopeningDone =>
    refine alertsOk_of_next h ?_
    split
    · exact hs.ite (by simp)
    · exact hs
  | sweepStep =>
    refine alertsOk_of_next h (hs.ite ?_)
    split <;> simp
  | peerStale | peerLost | peerAbsentLimit | demandStale | demandAbsentLimit =>
    exact alertsOk_of_next h (hs.ite rfl)
  | demandLost => exact alertsOk_of_next h (hs.ite (by simp [State.markDemand]))
  | _ => exact alertsOk_of_next h (hs.ite (by simp))

/-- Settles O56: each list by its commands; a millisecond ages the alerts and leaves the fault records alone. -/
theorem everyStepKeepsTheListsDistinct : Obligations.EveryStepKeepsTheListsDistinct := fun _ _ ha hf h =>
  ⟨step_keeps (P := fun u => u.peerView.AlertsOk) (fun _ _ hs => hs) (fun _ hs => hs.of_ages rfl fun _ => rfl)
      exec_alertsOk ha h,
    step_keeps (P := fun u => u.faults.ListOk) (fun _ _ hs => hs) (fun _ hs => hs.of_records rfl) exec_listOk hf h⟩

end Sys2Proof.Machine
end

section
/-! PROOFS. Reception and screening: a frame with a good header, its way to its block, and the statement that settles
which frames are set aside. -/

namespace Sys2Proof.Machine

variable {s : State} {addr : Address}

/-! ### A frame with a good header -/

theorem destOfNumber_destNumber (d : Dest) : destOfNumber (Fin.ofNat 16 (destNumber d)).val = d := by
  cases d with
  | all => rfl
  | station n => simp [destOfNumber, destNumber, Fin.ofNat, Nat.mod_eq_of_lt (show n.val < 16 by omega)]

theorem ofCode_goodHead (k : Kind) (cls : Fin 4) (addr : Address) :
    Kind.ofCode (goodHead k cls addr).kind.val = some k := by cases k <;> rfl

theorem headGood_goodHead {k : Kind} {cls : Fin 4} (addr : Address) (hc : k.hasClass cls.val = true) :
    headGood (goodHead k cls addr) = true := by
  have hkind : (goodHead k cls addr).kind.val = k.code := by cases k <;> rfl
  have hdest : (goodHead k cls addr).dest.val ≤ 8 := by
    have hle : destNumber addr.dest ≤ 8 := by
      unfold destNumber
      split <;> omega
    exact (Nat.mod_le _ _).trans hle
  have hparity : kindParity (goodHead k cls addr).kind.val = (goodHead k cls addr).parity := by rw [hkind]; rfl
  have hcls : k.hasClass (goodHead k cls addr).cls.val = true := hc
  simp [headGood, ofCode_goodHead, hcls, hparity, hdest]

/-- A frame with a right check and a good header is acknowledged and accepted (R152). -/
theorem State.receive_goodHead {k : Kind} {cls : Fin 4} {p : List Byte} (hc : k.hasClass cls.val = true)
    (hp : p.length ≤ 14) : s.receive (goodHead k cls addr) p = s.acknowledge.accept k addr p := by
  have hdest : destOfNumber (goodHead k cls addr).dest.val = addr.dest := destOfNumber_destNumber addr.dest
  have hsender : (goodHead k cls addr).sender = addr.sender := rfl
  simp [State.receive, hp, ofCode_goodHead, headGood_goodHead addr hc, hdest, hsender]

/-- The state in which a frame is handed to screening. -/
def State.afterHearing (s : State) : State := { s with link := s.heardLink }

@[simp] theorem State.afterHearing_link (s : State) : s.afterHearing.link = s.heardLink := rfl

@[simp] theorem State.afterHearing_service (s : State) : s.afterHearing.service = s.service := rfl

/-- Once the configuration is held a good frame is counted and screened (R152). -/
theorem State.receive_of_loaded {k : Kind} {cls : Fin 4} {p : List Byte} (hl : s.loaded = true)
    (hc : k.hasClass cls.val = true) (hp : p.length ≤ 14) :
    s.receive (goodHead k cls addr) p = s.afterHearing.screen k addr p := by
  rw [State.receive_goodHead hc hp]
  exact if_pos hl

/-- Before that it is acknowledged and discarded (R148). -/
theorem State.receive_of_not_loaded {k : Kind} {cls : Fin 4} {p : List Byte} (hl : s.loaded = false)
    (hc : k.hasClass cls.val = true) (hp : p.length ≤ 14) :
    s.receive (goodHead k cls addr) p = s.acknowledge := by
  rw [State.receive_goodHead hc hp]
  exact if_neg (show ¬s.loaded = true by simp [hl])

theorem Kind.hasClass_state (promoted : Bool) :
    Kind.state.hasClass (if promoted = true then (1 : Fin 4) else 2).val = true := by cases promoted <;> rfl

/-! ### Screening (R20) -/

theorem State.screen_of_own {k : Kind} {p : List Byte} (h : addr.sender = s.own) :
    s.screen k addr p = s.duplicateHeard := by simp [State.screen, h]

theorem State.screen_of_stranger {k : Kind} {p : List Byte} (h : addr.sender ≠ s.own)
    (hp : s.present addr.sender = false) (hk : k ≠ .serviceReq) : s.screen k addr p = s.countStranger := by
  simp [State.screen, h, hp, hk]

/-- A tool need not be a station of the bus. -/
theorem State.screen_of_not_forUs {k : Kind} {p : List Byte} (h : addr.sender ≠ s.own)
    (hp : s.present addr.sender = true ∨ k = .serviceReq) (hd : s.forUs addr.dest = false) : s.screen k addr p = s := by
  rcases hp with hp | rfl
  · simp [State.screen, h, hp, hd]
  · simp [State.screen, h, hd]

theorem State.screen_of_forUs {k : Kind} {p : List Byte} (h : addr.sender ≠ s.own)
    (hp : s.present addr.sender = true ∨ k = .serviceReq) (hd : s.forUs addr.dest = true) :
    s.screen k addr p = s.route k addr p := by
  rcases hp with hp | rfl
  · simp [State.screen, h, hp, hd]
  · simp [State.screen, h, hd]

/-- A frame from another station of the bus to this one or to all is routed to its block. -/
theorem State.Hears.receive {k : Kind} {cls : Fin 4} {p : List Byte} (h : s.Hears addr)
    (hc : k.hasClass cls.val = true) (hp : p.length ≤ 14) :
    s.receive (goodHead k cls addr) p = s.afterHearing.route k addr p := by
  rw [State.receive_of_loaded h.loaded hc hp]
  exact State.screen_of_forUs h.other (.inl h.present) h.forUs

/-! ### A duplicate number -/

/-- On a listen-only station a reply that leaves frees the slot, and a reply held back is refused then (R160, R174). -/
theorem State.replyLeft_of_listenOnly (hl : s.link.listenOnly = true) : s.replyLeft = { s with service := { s.service with
    slot := if s.service.sweepFor.isSome then .waiting else .free
    heldReply := none } } := by
  unfold State.replyLeft
  split
  · next hh => simp [Service.idleSlot, hh]
  · rw [State.offerReply_of_listenOnly _ (by exact hl)]
    rfl

/-- A station that goes listen-only clears its queue but for the entry in flight, and frees the slot of a reply cleared
(R35, R157, R160). -/
theorem State.silence_eq (s : State) : s.silence = { s with
    link := s.link.silence
    service := if s.link.listenOnly = false ∧ (∃ e ∈ s.link.queue, e.kind = .serviceReply ∧ e.inFlight = false) then
        { s.service with
          slot := if s.service.sweepFor.isSome then .waiting else .free
          heldReply := none }
      else s.service } := by
  have hcond : (s.link.replyWaits && !s.link.listenOnly) = true ↔
      s.link.listenOnly = false ∧ ∃ e ∈ s.link.queue, e.kind = .serviceReply ∧ e.inFlight = false := by
    simp [Link.replyWaits, and_comm]
  unfold State.silence
  simp only [hcond]
  split
  · exact State.replyLeft_of_listenOnly (by simp [Link.silence])
  · rfl

theorem State.duplicateHeard_eq (s : State) : s.duplicateHeard = { s with
    link := s.link.silence
    service := if s.link.listenOnly = false ∧ (∃ e ∈ s.link.queue, e.kind = .serviceReply ∧ e.inFlight = false) then
        { s.service with
          slot := if s.service.sweepFor.isSome then .waiting else .free
          heldReply := none }
      else s.service
    peerView := { s.peerView with duplicate := true }
    faults := s.faults.raise .duplicateStation s.own.val } := by
  rw [State.duplicateHeard, State.silence_eq]
  rfl

/-- The commands that bring a frame with payload `p` of at most 14 bytes, or a request with arguments `p`. -/
def bringsFrame (addr : Address) (p : List Byte) (c : Instr) : Prop :=
  (p.length ≤ 14 ∧ c ∈ [Instr.stateFrame true addr p, .stateFrame false addr p, .demandFrame addr p, .alertFrame addr p,
      .traceFrame addr p, .serviceReplyFrame addr p, .unknownRequest addr p]) ∨
    (p.length ≤ 13 ∧ c ∈ [Instr.snapshot addr p, .readFaults addr p, .clearFaults addr p, .calibrateHeight addr p,
      .coilSweep addr p, .restart addr p])

/-- Each of them hands a good frame of at most 14 bytes to reception. -/
theorem exec_of_bringsFrame {p : List Byte} {c : Instr} (h : bringsFrame addr p c) (s : State) :
    ∃ k cls q, Kind.hasClass k (cls : Fin 4).val = true ∧ q.length ≤ 14 ∧
      exec c s = .next (s.receive (goodHead k cls addr) q) := by
  rcases h with ⟨hp, hc⟩ | ⟨hp, hc⟩
  · simp only [List.mem_cons, List.not_mem_nil, or_false] at hc
    rcases hc with rfl | rfl | rfl | rfl | rfl | rfl | rfl
    all_goals exact ⟨_, _, p, by rfl, hp, rfl⟩
  · simp only [List.mem_cons, List.not_mem_nil, or_false] at hc
    rcases hc with rfl | rfl | rfl | rfl | rfl | rfl
    all_goals exact ⟨_, _, _ :: p, by rfl, Nat.succ_le_succ hp, rfl⟩

/-- Settles O21: every frame command comes to reception, and screening takes its steps in order. -/
theorem screeningSetsFramesAside : Obligations.ScreeningSetsFramesAside := by
  refine ⟨fun addr p s hl hp => ?_, fun addr p c s hl hc => ?_, fun addr p s h hp => ?_, fun k addr p s => ?_⟩
  · have hscreen : ∀ {k : Kind} {cls : Fin 4} {q : List Byte}, k.hasClass cls.val = true → q.length ≤ 14 →
        (.next (s.receive (goodHead k cls addr) q) : Host.Outcome State Fault Refusal) =
          .next (State.screen { s with link := s.heardLink } k addr q) :=
      fun hc hq => congrArg _ (State.receive_of_loaded hl hc hq)
    refine ⟨fun promoted => hscreen (Kind.hasClass_state promoted) hp, hscreen rfl hp, hscreen rfl hp, hscreen rfl hp,
      hscreen rfl hp, hscreen rfl hp, fun hargs => ?_⟩
    have hlen : ∀ code : Byte, (code :: p).length ≤ 14 := fun _ => Nat.succ_le_succ hargs
    exact ⟨hscreen rfl (hlen _), hscreen rfl (hlen _), hscreen rfl (hlen _), hscreen rfl (hlen _), hscreen rfl (hlen _),
      hscreen rfl (hlen _)⟩
  · obtain ⟨k, cls, q, hcls, hq, he⟩ := exec_of_bringsFrame hc s
    rw [he, State.receive_of_not_loaded hl hcls hq]
    rfl
  · exact congrArg _ (h.receive (k := .serviceReply) rfl hp)
  · refine ⟨fun hown => ?_, fun hother hp hk => ?_, fun hother hp hd hcab => ⟨?_, ?_⟩, fun hother hp hd => ?_⟩
    · rw [State.screen_of_own hown, State.duplicateHeard_eq]
      rfl
    · exact State.screen_of_stranger hother hp hk
    · rintro rfl
      rw [State.screen_of_forUs hother (.inl hp) hd]
      exact if_neg (by simpa using hcab)
    · rintro rfl
      rw [State.screen_of_forUs hother (.inl hp) hd]
      exact if_neg (by simpa using hcab)
    · exact State.screen_of_not_forUs hother (.inl hp) hd

end Sys2Proof.Machine
end

section
/-! PROOFS. Requests on their way to the service block: shed, discarded, dropped, or taken and answered; and the
statement about those that get no service. -/

namespace Sys2Proof.Machine

variable {s : State} {addr : Address} {p : List Byte}

/-! ### A request past screening (R20, R159, R174) -/

theorem State.forUs_own (s : State) : s.forUs (.station s.own) = true := by simp [State.forUs]

theorem State.receiveRequest_of_not_forUs (hl : s.loaded = true) (ho : addr.sender ≠ s.own)
    (hd : s.forUs addr.dest = false) (hp : p.length ≤ 14) : s.receiveRequest addr p = s.afterHearing := by
  rw [State.receiveRequest, State.receive_of_loaded hl rfl hp]
  exact State.screen_of_not_forUs ho (.inr rfl) hd

theorem State.receiveRequest_of_forUs (hl : s.loaded = true) (ho : addr.sender ≠ s.own)
    (hd : s.forUs addr.dest = true) (hp : p.length ≤ 14) :
    s.receiveRequest addr p = s.afterHearing.routeRequest addr p := by
  rw [State.receiveRequest, State.receive_of_loaded hl rfl hp]
  exact State.screen_of_forUs ho (.inr rfl) hd

theorem State.routeRequest_of_shed (h : s.link.shed = true) :
    s.routeRequest addr p = { s with link := { s.link with serviceShed := bump s.link.serviceShed } } := if_pos h

theorem State.routeRequest_of_not_shed (h : s.link.shed = false) : s.routeRequest addr p = s.takeRequest addr p := by
  simp [State.routeRequest, h]

theorem State.takeRequest_of_all (h : addr.dest = .all) : s.takeRequest addr p = s := by simp [State.takeRequest, h]

theorem State.takeRequest_of_queued {n : Fin 8} (h : addr.dest = .station n) (hq : s.service.slot = .queued) :
    s.takeRequest addr p = { s with service := { s.service with busyDrop := bump s.service.busyDrop } } := by
  simp [State.takeRequest, h, hq]

theorem State.takeRequest_of_idle {n : Fin 8} (h : addr.dest = .station n) (hq : s.service.slot ≠ .queued) :
    s.takeRequest addr p = s.servePayload addr.sender p := by
  simp [State.takeRequest, h, hq]

/-! ### A request that is served -/

/-- The request reaches the service block. -/
theorem State.Serves.receive (h : s.Serves addr) (hp : p.length ≤ 14) :
    s.receiveRequest addr p = s.afterHearing.servePayload addr.sender p := by
  have hd : s.forUs addr.dest = true := h.forUs ▸ s.forUs_own
  rw [State.receiveRequest_of_forUs h.loaded h.other hd hp, State.routeRequest_of_not_shed (by exact h.shed),
    State.takeRequest_of_idle h.forUs (by exact h.slot)]

/-- Its answer, given on a service block `v`, joins the queue (R174). -/
theorem State.Serves.answer (h : s.Serves addr) (v : Service) (sender : Fin 8) (code : Nat) (r : Result)
    (data : List Byte) :
    State.answer { s.afterHearing with service := v } sender code r data = { s with
      link := s.repliedLink sender (replyPayload code r data)
      service := { v with slot := .queued } } :=
  State.offerReply_of_room ⟨sender.val, replyPayload code r data⟩ (by exact h.live) (by exact h.room)

/-! ### Requests without service -/

/-- The seven commands that bring a request, the six of the table with arguments `args`, the unknown one with payload
`args`. -/
def bringsRequest (addr : Address) (args : List Byte) (c : Instr) : Prop :=
  (args.length ≤ 14 ∧ c = .unknownRequest addr args) ∨ (args.length ≤ 13 ∧
    c ∈ [Instr.snapshot addr args, .readFaults addr args, .clearFaults addr args, .calibrateHeight addr args,
      .coilSweep addr args, .restart addr args])

theorem exec_of_bringsRequest {args : List Byte} {c : Instr} (h : bringsRequest addr args c) (s : State) :
    ∃ q : List Byte, q.length ≤ 14 ∧ exec c s = .next (s.receiveRequest addr q) := by
  rcases h with ⟨hp, rfl⟩ | ⟨hp, hc⟩
  · exact ⟨args, hp, rfl⟩
  · simp only [List.mem_cons, List.not_mem_nil, or_false] at hc
    rcases hc with rfl | rfl | rfl | rfl | rfl | rfl
    all_goals exact ⟨_ :: args, Nat.succ_le_succ hp, rfl⟩

/-- Settles O53: the two unknown requests by their answers, the rest by where the request ends on its way. -/
theorem requestsWithoutServiceAreRefusedOrDropped : Obligations.RequestsWithoutServiceAreRefusedOrDropped := by
  refine ⟨fun addr s h => ⟨?_, fun code args hargs hcode => ?_⟩, fun addr args c s hl ho hc => ?_, fun l => ?_⟩
  · exact congrArg _ ((h.receive (p := []) (Nat.zero_le 14)).trans (h.answer s.service addr.sender 0 .refusedUnknown []))
  · have hserve : s.afterHearing.servePayload addr.sender (code :: args) =
        s.afterHearing.serveUnknown addr.sender code.toNat := by simp [State.servePayload, hcode]
    have hanswer := h.answer { s.service with unknown := bump s.service.unknown } addr.sender code.toNat
      .refusedUnknown []
    have hpayload : replyPayload code.toNat .refusedUnknown [] = [code, 4] := by
      simp [replyPayload, Result.code]
    rw [hpayload] at hanswer
    exact congrArg _ ((h.receive (p := code :: args) (Nat.succ_le_succ hargs)).trans (hserve.trans hanswer))
  · obtain ⟨q, hq, he⟩ := exec_of_bringsRequest hc s
    rw [he]
    refine ⟨fun hd => ?_, fun hd hshed => ?_, fun hshed hall => ?_, fun hshed hown hslot => ?_⟩
    · exact congrArg _ (State.receiveRequest_of_not_forUs hl ho hd hq)
    · rw [State.receiveRequest_of_forUs hl ho hd hq, State.routeRequest_of_shed (by exact hshed)]
      rfl
    · have hd : s.forUs addr.dest = true := hall ▸ rfl
      rw [State.receiveRequest_of_forUs hl ho hd hq, State.routeRequest_of_not_shed (by exact hshed),
        State.takeRequest_of_all hall]
      rfl
    · have hd : s.forUs addr.dest = true := hown ▸ s.forUs_own
      rw [State.receiveRequest_of_forUs hl ho hd hq, State.routeRequest_of_not_shed (by exact hshed),
        State.takeRequest_of_queued hown (by exact hslot)]
      rfl
  · refine ⟨fun h6 => if_pos h6, fun h3 => ?_, fun h3 h6 => ?_⟩
    · rw [Link.updateShed, if_neg (by omega), if_pos h3]
    · rw [Link.updateShed, if_neg (by omega), if_neg (by omega)]

end Sys2Proof.Machine
end

section
/-! PROOFS. The peer view: what STATE, DEMAND and ALERT payloads carry and what taking them leaves, and the limits of a
peer entry, of the DEMAND record and of an alert. -/

namespace Sys2Proof.Machine

variable {s : State} {addr : Address} {p : List Byte}

/-! ### Fields of a payload -/

theorem byteAt_lt (p : List Byte) (i : Nat) : byteAt p i < 256 := (p.getD i 255).isLt

theorem pairAt_lt (p : List Byte) (i : Nat) : pairAt p i < 65536 := by
  have h1 := byteAt_lt p i
  have h2 := byteAt_lt p (i + 1)
  simp only [pairAt]
  omega

/-! ### STATE (R22) -/

theorem roleOfCode_eq (n : Nat) : roleOfCode n = [Role.cab, .plain, .steer][n]? := by
  match n with
  | 0 | 1 | 2 => rfl
  | n + 3 => simp [roleOfCode]

theorem modeOfCode_eq (n : Nat) :
    modeOfCode n = [Mode.start, .park, .stop, .kneel, .knelt, .raise, .drive, .backup][n]? := by
  match n with
  | 0 | 1 | 2 | 3 | 4 | 5 | 6 | 7 => rfl
  | n + 8 => simp [modeOfCode]

theorem stateLengthGood_iff (p : List Byte) : stateLengthGood p = true ↔
    (p.length = 9 ∧ (byteAt p 7).testBit 5 = false) ∨ (p.length = 11 ∧ (byteAt p 7).testBit 5 = true) := by
  simp [stateLengthGood]

/-- Once the length is good, the supply is there exactly in the longer form. -/
theorem supplyField_eq (h : stateLengthGood p = true) :
    supplyField p = if p.length = 11 then some (pairAt p 9) else none := by
  rcases (stateLengthGood_iff p).1 h with ⟨hl, hb⟩ | ⟨hl, hb⟩ <;> simp [supplyField, hl, hb]

/-- A STATE payload is good when its length, its ranges, its role and its mode are. -/
theorem stateGood_iff (p : List Byte) : StateGood p ↔ stateLengthGood p = true ∧ stateRangesGood p = true ∧
    byteAt p 0 / 16 % 4 ≤ 2 ∧ byteAt p 0 % 16 ≤ 7 := by
  have hranges (hl : stateLengthGood p = true) : stateRangesGood p = true ↔
      (1 ≤ pairAt p 1 ∧ pairAt p 1 ≤ 2000) ∧ pairAt p 3 ≤ 1500 ∧ (p.length = 11 → pairAt p 9 ≤ 1270) := by
    rw [stateRangesGood, supplyField_eq hl]
    split <;> simp_all [and_assoc]
  constructor
  · rintro ⟨hlen, hrole, hmode, hload, hspeed, hsupply⟩
    have hl := (stateLengthGood_iff p).2 hlen
    exact ⟨hl, (hranges hl).2 ⟨hload, hspeed, hsupply⟩, hrole, hmode⟩
  · rintro ⟨hl, hr, hrole, hmode⟩
    obtain ⟨hload, hspeed, hsupply⟩ := (hranges hl).1 hr
    exact ⟨(stateLengthGood_iff p).1 hl, hrole, hmode, hload, hspeed, hsupply⟩

theorem parseState_of_good (h : StateGood p) : ∃ r, parseState p = some r ∧ StateCarries p r := by
  obtain ⟨hl, hr, hrole, hmode⟩ := (stateGood_iff p).1 h
  obtain ⟨role, hrole⟩ : ∃ role, [Role.cab, .plain, .steer][byteAt p 0 / 16 % 4]? = some role :=
    ⟨_, List.getElem?_eq_getElem (by simp; omega)⟩
  obtain ⟨mode, hmode⟩ : ∃ mode, [Mode.start, .park, .stop, .kneel, .knelt, .raise, .drive, .backup][byteAt p 0 % 16]? =
      some mode := ⟨_, List.getElem?_eq_getElem (by simp; omega)⟩
  rw [parseState, roleOfCode_eq, modeOfCode_eq, hrole, hmode, if_pos (by simp [hl, hr])]
  exact ⟨_, rfl, rfl, hrole, hmode, ⟨rfl, rfl, rfl⟩, ⟨rfl, rfl, rfl, rfl, rfl⟩,
    by simp [Nat.mod_eq_of_lt (byteAt_lt p 8)], supplyField_eq hl⟩

theorem parseState_of_bad (h : ¬StateGood p) : parseState p = none := by
  unfold parseState
  split
  · next hgood =>
    obtain ⟨hl, hr⟩ := Bool.and_eq_true _ _ ▸ hgood
    split
    · next role mode hrole hmode =>
      rw [roleOfCode_eq, List.getElem?_eq_some_iff] at hrole
      rw [modeOfCode_eq, List.getElem?_eq_some_iff] at hmode
      obtain ⟨hrole, -⟩ := hrole
      obtain ⟨hmode, -⟩ := hmode
      exact absurd ((stateGood_iff p).2 ⟨hl, hr, Nat.le_of_lt_succ hrole, Nat.le_of_lt_succ hmode⟩) h
    · rfl
  · rfl

/-- Settles O16: the record a good payload carries replaces the entry, and a malformed one is counted. -/
theorem stateFrameRefreshesPeer : Obligations.StateFrameRefreshesPeer := by
  intro promoted addr p s h hp
  have hexec : exec (.stateFrame promoted addr p) s = .next (s.afterHearing.takeState addr.sender p) :=
    congrArg _ (h.receive (Kind.hasClass_state promoted) hp)
  refine ⟨fun hgood => ?_, fun hbad => ?_⟩
  · obtain ⟨r, hr, hcarries⟩ := parseState_of_good hgood
    refine ⟨r, hcarries, ?_⟩
    simp only [hexec, State.takeState, hr]
    rfl
  · simp only [hexec, State.takeState, parseState_of_bad hbad]
    rfl

/-! ### DEMAND (R27, R28) -/

theorem parseDemand_of_good (hl : p.length = 5) (hd : pairAt p 0 ≤ 800) :
    ∃ v, parseDemand p = some v ∧ DemandCarries p v :=
  ⟨_, if_pos (by simp [hl, hd]), rfl, ⟨rfl, rfl, rfl, rfl, rfl, rfl, rfl⟩, by simp [Nat.mod_eq_of_lt (pairAt_lt p 3)]⟩

theorem parseDemand_of_bad (h : p.length ≠ 5 ∨ 800 < pairAt p 0) : parseDemand p = none := by
  refine if_neg ?_
  rcases h with h | h <;> simp [h]

theorem State.clearPath_eq (s : State) : s.clearPath = { s with
    tracker := { s.tracker with
      queue := if s.hasPath = true then [] else s.tracker.queue
      rejectionRun := if s.hasPath = true then 0 else s.tracker.rejectionRun }
    joint := if s.hasJoint = true then s.joint.afterClearing else s.joint } := by
  unfold State.clearPath State.jointCleared
  split
  · next hp =>
    have hjoint (t : Tracker) : State.hasJoint { s with tracker := t } = s.hasJoint := rfl
    simp only [hjoint]
    split <;> rfl
  · next hp =>
    have hj : s.hasJoint = false := by simp_all [State.hasPath]
    simp [hj]

/-- The clearing of the path under reverse, and what the joint monitor is told of it (R38, R48, R68). -/
theorem State.applyReverse_eq (s : State) : s.applyReverse = { s with
    tracker := if s.demand.rev = true then { s.tracker with
        accumulator := if s.isCab = true then 0 else s.tracker.accumulator
        queue := if s.hasPath = true then [] else s.tracker.queue
        rejectionRun := if s.hasPath = true then 0 else s.tracker.rejectionRun }
      else s.tracker
    joint := if s.demand.rev = true ∧ s.hasJoint = true then s.joint.afterClearing else s.joint } := by
  unfold State.applyReverse
  split
  · next hr =>
    simp only [hr, true_and]
    split
    · exact State.clearPath_eq _
    · exact State.clearPath_eq _
  · next hr => simp [hr]

/-- What an accepted DEMAND leaves before the sweep looks at it. -/
theorem State.freshened_eq (s : State) (v : DemandValues) : (s.freshenDemand v).applyReverse = { s with
    peerView := { s.peerView with demand := { s.peerView.demand with
      freshness := .fresh
      age := 0
      values := v } }
    ladder := { s.ladder with noDemandCause := false }
    faults := (s.faults.finish .demandLost 0).finish .demandLost 1
    tracker := if v.rev = true then { s.tracker with
        accumulator := if s.isCab = true then 0 else s.tracker.accumulator
        queue := if s.hasPath = true then [] else s.tracker.queue
        rejectionRun := if s.hasPath = true then 0 else s.tracker.rejectionRun }
      else s.tracker
    joint := if v.rev = true ∧ s.hasJoint = true then s.joint.afterClearing else s.joint } :=
  (s.freshenDemand v).applyReverse_eq

/-- Settles O17: the values of a good payload are accepted, under the watch of a sweep, and a malformed one is counted. -/
theorem demandFrameReplacesRecord : Obligations.DemandFrameReplacesRecord := by
  intro addr p s h hcab hp
  have hexec : exec (.demandFrame addr p) s = .next (s.afterHearing.takeDemand p) := by
    refine congrArg _ ((h.receive (k := .demand) rfl hp).trans (if_pos ?_))
    exact beq_iff_eq.2 hcab
  refine ⟨fun hl hd => ?_, fun hbad => ?_⟩
  · obtain ⟨v, hv, hcarries⟩ := parseDemand_of_good hl hd
    refine ⟨s.afterHearing.acceptDemand v, v, ?_, hcarries, ?_⟩
    · simp only [hexec, State.takeDemand, hv]
    · rw [State.acceptDemand, State.freshened_eq]
      exact State.checkSweep_watches _
  · simp only [hexec, State.takeDemand, parseDemand_of_bad hbad]
    rfl

/-! ### ALERT (R31) -/

theorem alertOfNumber_eq (n : Nat) : alertOfNumber n =
    if n = 0 then none
    else [AlertCode.jackknife, .jointLimit, .steerPinned, .brakeDegraded, .entranceBreach][n - 1]? := by
  match n with
  | 0 | 1 | 2 | 3 | 4 | 5 => rfl
  | n + 6 => simp [alertOfNumber]

theorem alertCarries_pair (c r : Byte) (code : AlertCode) (q : Byte) : AlertCarries [c, r] code q ↔
    alertOfNumber c.toNat = some code ∧ r = q ∧ (code = .jackknife ∨ code = .jointLimit → q.toNat ≤ 2) ∧
      (code = .entranceBreach → q.toNat ≤ 15) := by
  have hcode : byteAt [c, r] 0 = c.toNat := rfl
  have hqual : byteAt [c, r] 1 = r.toNat := rfl
  rw [alertOfNumber_eq, Option.ite_none_left_eq_some, ← BitVec.toNat_inj, ← hcode, ← hqual]
  exact ⟨fun ⟨_, hc, hq, hj, he⟩ => ⟨hc, hq, hj, he⟩, fun ⟨hc, hq, hj, he⟩ => ⟨rfl, hc, hq, hj, he⟩⟩

/-- What an ALERT payload carries is what the model reads of it. -/
theorem parseAlert_eq_some_iff (code : AlertCode) (q : Byte) :
    parseAlert p = some (code, q) ↔ AlertCarries p code q := by
  match p with
  | [c, r] =>
    rw [alertCarries_pair]
    cases ho : alertOfNumber c.toNat with
    | none => simp [parseAlert, ho]
    | some d => cases d <;> simp [parseAlert, ho] <;> grind
  | [] | [_] | _ :: _ :: _ :: _ =>
    refine ⟨nofun, fun h => ?_⟩
    simpa using h.length

theorem parseAlert_eq_none_iff : parseAlert p = none ↔ ∀ code q, ¬AlertCarries p code q := by
  simp only [← parseAlert_eq_some_iff, Option.eq_none_iff_forall_ne_some, Prod.forall, Ne]

theorem State.Hears.alertFrame (h : s.Hears addr) (hp : p.length ≤ 14) :
    exec (.alertFrame addr p) s = .next (s.afterHearing.takeAlert addr.sender p) :=
  congrArg _ (h.receive (k := .alert) rfl hp)

/-- A good ALERT is in the set afterwards, with age 0. -/
theorem mem_refreshAlerts (set : List AlertEntry) (c : AlertCode) (q : Byte) (n : Fin 8) :
    ⟨c, q, n, 0⟩ ∈ (refreshAlerts set c q n).1 := by
  rcases refreshAlerts_cases set c q n with ⟨hold, hr⟩ | ⟨-, -, hr⟩ | ⟨-, -, v, -, -, hr⟩
  · obtain ⟨a, ha, his⟩ := List.any_eq_true.1 hold
    obtain ⟨rfl, rfl, rfl⟩ := (a.is_iff c q n).1 his
    rw [hr]
    exact List.mem_map.2 ⟨a, ha, if_pos his⟩
  · simp [hr]
  · simp [hr]

/-- The alerts and the count of displaced entries after a good ALERT, by the standing of the set. -/
theorem refreshAlerts_spec (set : List AlertEntry) (c : AlertCode) (q : Byte) (n : Fin 8) :
    ((∃ a ∈ set, a.code = c ∧ a.qualifier = q ∧ a.sender = n) → refreshAlerts set c q n =
      (set.map fun a => if a.code = c ∧ a.qualifier = q ∧ a.sender = n then { a with age := 0 } else a, false)) ∧
    ((∀ a ∈ set, ¬(a.code = c ∧ a.qualifier = q ∧ a.sender = n)) →
      (set.length < 16 → refreshAlerts set c q n = (set ++ [⟨c, q, n, 0⟩], false)) ∧
      (16 ≤ set.length → ∃ v ∈ set, (∀ a ∈ set, a ≠ v → v.goesBefore a) ∧
        refreshAlerts set c q n = (set.erase v ++ [⟨c, q, n, 0⟩], true))) := by
  have hany : set.any (·.is c q n) = true ↔ ∃ a ∈ set, a.code = c ∧ a.qualifier = q ∧ a.sender = n := by
    simp only [List.any_eq_true, AlertEntry.is_iff]
  have hnone : (∀ a ∈ set, ¬(a.code = c ∧ a.qualifier = q ∧ a.sender = n)) ↔ set.any (·.is c q n) = false := by
    rw [← Bool.not_eq_true, hany]
    simp only [not_exists, not_and]
  rw [← hany, hnone]
  rcases refreshAlerts_cases set c q n with ⟨hold, hr⟩ | ⟨hnew, hroom, hr⟩ | ⟨hnew, hfull, v, hv, hleast, hr⟩
  · refine ⟨fun _ => ?_, fun h => absurd (hold.symm.trans h) (by simp)⟩
    simpa only [AlertEntry.is_iff] using hr
  · exact ⟨fun h => absurd (h.symm.trans hnew) (by simp), fun _ => ⟨fun _ => hr, fun h => by omega⟩⟩
  · refine ⟨fun h => absurd (h.symm.trans hnew) (by simp), fun _ => ⟨fun h => by omega, fun _ => ⟨v, hv, ?_, hr⟩⟩⟩
    exact fun a ha hne => (v.goesBefore_iff a).2 (lt_of_le_of_ne (hleast a ha) fun he => hne (AlertEntry.rank_injective he.symm))

/-- Settles O18: the three ways of a good ALERT into the set, and the count of a malformed one. -/
theorem alertFrameRefreshesSet : Obligations.AlertFrameRefreshesSet := by
  intro addr p s h hp
  refine ⟨fun code q hc => ?_, fun hbad => ?_⟩
  · have hparse := (parseAlert_eq_some_iff code q).2 hc
    obtain ⟨hrefresh, hjoin⟩ := refreshAlerts_spec s.peerView.alerts code q addr.sender
    refine ⟨_, h.alertFrame hp, ?_⟩
    simp only [State.takeAlert, hparse]
    refine ⟨rfl, fun hold => ?_, fun hnew => ⟨fun hroom => ?_, fun hfull => ?_⟩⟩
    · exact ⟨congrArg Prod.fst (hrefresh hold), by simp [State.afterHearing, hrefresh hold]⟩
    · have hr := (hjoin hnew).1 hroom
      exact ⟨congrArg Prod.fst hr, by simp [State.afterHearing, hr]⟩
    · obtain ⟨v, hv, hfirst, hr⟩ := (hjoin hnew).2 hfull
      exact ⟨v, hv, hfirst, congrArg Prod.fst hr, by simp [State.afterHearing, hr]⟩
  · simp only [h.alertFrame hp, State.takeAlert, parseAlert_eq_none_iff.2 hbad]
    rfl

/-- Settles O25: the expiry removes by key and age alone, an ALERT puts its entry at age 0, and the limits of a peer entry
leave the set alone. -/
theorem alertEntriesExpire : Obligations.AlertEntriesExpire := by
  refine ⟨fun code q n s => ⟨_, rfl, rfl, List.filter_sublist, fun a ha => ?_⟩, fun addr p code q s h hp hc => ?_,
    fun n s => ⟨⟨_, rfl, ?_⟩, ⟨_, rfl, ?_⟩⟩⟩
  · have hout : (a.is code q n && a.expired) = true ↔
        a.code = code ∧ a.qualifier = q ∧ a.sender = n ∧ 60 < a.age := by
      simp [AlertEntry.is_iff, AlertEntry.expired, and_assoc]
    simp only [List.mem_filter, ha, true_and, Bool.not_eq_true', ← Bool.not_eq_true, hout]
  · refine ⟨_, h.alertFrame hp, ?_⟩
    simp only [State.takeAlert, (parseAlert_eq_some_iff code q).2 hc]
    exact mem_refreshAlerts _ code q addr.sender
  · split <;> rfl
  · split <;> rfl

/-! ### Limits (R23, R28) -/

/-- Settles O23: each limit's own condition holds. -/
theorem peerEntryPassesItsLimits : Obligations.PeerEntryPassesItsLimits := by
  refine fun n s hn => ⟨fun hf ha => ?_, fun hf ha => ?_, fun hl hf ha hr => ?_⟩
  · exact congrArg _ (if_pos (by simp [State.peerStaleDue, hn, hf, ha]))
  · exact congrArg _ (if_pos (by simp [State.peerLostDue, hn, hf, ha]))
  · exact congrArg _ (if_pos (by simp [State.peerAbsentDue, hn, hl, hf, ha, hr]))

/-- A LOST record breaks a RUNNING sweep (R169). -/
theorem State.sweepMayRun_of_lost (h : s.demandFreshness = .lost) : s.sweepMayRun = false := by
  simp [State.sweepMayRun, h]

/-- Settles O24: each limit's own condition holds, and the lost record is what a RUNNING sweep watches. -/
theorem demandRecordPassesItsLimits : Obligations.DemandRecordPassesItsLimits := by
  refine fun s => ⟨fun hf ha => ?_, fun hf ha => ?_, fun hf ha hr => ?_⟩
  · exact congrArg _ (if_pos (by simp [State.demandStaleDue, hf, ha]))
  · have hdue : s.demandLostDue = true := by simp [State.demandLostDue, hf, ha]
    have hwatch := ((s.markDemand .lost).raise .demandLost 0).checkSweep_watches
    refine ⟨_, _, congrArg Host.Outcome.next (if_pos hdue), rfl, fun hs => ?_, fun hs => ?_⟩
    · exact hwatch.stands (.inl hs)
    · exact hwatch.aborts hs (State.sweepMayRun_of_lost rfl)
  · exact congrArg _ (if_pos (by simp [State.demandAbsentDue, hf, ha, hr]))

end Sys2Proof.Machine
end

section
/-! PROOFS. What the peer view hands its readers, and the DEMAND computation of the CAB station: the drive flag's terms,
the cab lines, the frame offered and the record fed. -/

namespace Sys2Proof.Machine

variable {s : State}

/-! ### What the peer view hands out (R24, R25) -/

theorem State.peerReads (s : State) (n : Fin 8) : s.PeerReads n where
  heard h := by rcases h with h | h <;> simp [Peer.heard, h]
  silent h := by rcases h with h | h <;> simp [Peer.heard, h]
  known r h := by
    simp [State.peerLoad, State.peerSection, State.peerReady, State.peerEntLocked, State.peerBreach, State.peerMode, h]
  unknown h := by
    simp [State.peerLoad, State.peerSection, State.peerReady, State.peerEntLocked, State.peerBreach, State.peerMode, h]
  fresh r h hr := by simp [State.peerDeficit, State.peerFilling, Peer.freshRecord, h, hr]
  old h := by
    have hnone : (s.peer n).freshRecord = none := by
      unfold Peer.freshRecord
      split <;> simp_all
    simp [State.peerDeficit, State.peerFilling, hnone]

@[simp] theorem State.mem_peerNumbers (s : State) (n : Fin 8) : n ∈ s.peerNumbers ↔ s.isPeer n = true := by
  simp [State.peerNumbers]

/-! ### The drive flag's terms (R145) -/

theorem State.driveTermsNow_entrances_iff (s : State) (w : Switches) : (s.driveTermsNow w).entrances = true ↔
    w.ovr = true ∨ (s.interlock.entLocked = true ∧ ∀ n, s.isPeer n = true → s.peerEntLocked n = true) := by
  simp [State.driveTermsNow]

theorem State.driveTermsNow_readiness_iff (s : State) (w : Switches) : (s.driveTermsNow w).readiness = true ↔
    s.interlock.ready = true ∧ ∀ n, s.isPeer n = true →
      ((s.peer n).heard = none → w.ovr = true) ∧ (∀ r, (s.peer n).heard = some r → r.ready = true) := by
  simp only [State.driveTermsNow, Bool.and_eq_true, List.all_eq_true, State.mem_peerNumbers]
  refine and_congr_right' (forall₂_congr fun n _ => ?_)
  cases hh : (s.peer n).heard with
  | none => simp
  | some r => simp [State.peerReady, hh]

/-- A JACKKNIFE is active for joint `j` (R33): the own one, or one of the remote set. -/
theorem State.jackknifed_iff (s : State) (j : Fin 3) : s.jackknifed j.val = true ↔
    (s.joint.jackknife = true ∧ s.cfg.joint = some j) ∨
      ∃ a ∈ s.peerView.alerts, a.code = .jackknife ∧ a.qualifier.toNat = j.val := by
  have hjoint : s.cfg.joint.map (·.val) = some j.val ↔ s.cfg.joint = some j := by
    cases s.cfg.joint <;> simp [Fin.ext_iff]
  simp only [State.jackknifed, Bool.or_eq_true, Bool.and_eq_true, beq_iff_eq, hjoint, List.any_eq_true]

theorem State.anyJackknife_iff (s : State) : s.anyJackknife = true ↔
    (s.joint.jackknife = true ∧ s.cfg.joint ≠ none) ∨
      ∃ a ∈ s.peerView.alerts, a.code = .jackknife ∧ a.qualifier.toNat ≤ 2 := by
  have hexists : s.anyJackknife = true ↔ ∃ j : Fin 3, s.jackknifed j.val = true := by
    simp [State.anyJackknife, Fin.exists_fin_succ, or_assoc]
  simp only [hexists, State.jackknifed_iff, exists_or]
  refine or_congr ?_ ?_
  · rw [exists_and_left, Option.ne_none_iff_exists']
  · constructor
    · rintro ⟨j, a, ha, hc, hq⟩
      exact ⟨a, ha, hc, by omega⟩
    · rintro ⟨a, ha, hc, hq⟩
      exact ⟨⟨a.qualifier.toNat, by omega⟩, a, ha, hc, rfl⟩

theorem State.driveTermsNow_articulation_iff (s : State) (w : Switches) : (s.driveTermsNow w).articulation = true ↔
    (s.joint.jackknife = false ∨ s.cfg.joint = none) ∧
      ∀ a ∈ s.peerView.alerts, ¬(a.code = .jackknife ∧ a.qualifier.toNat ≤ 2) := by
  have hterm : (s.driveTermsNow w).articulation = true ↔ ¬s.anyJackknife = true := by simp [State.driveTermsNow]
  rw [hterm, State.anyJackknife_iff]
  simp only [not_or, not_and, ne_eq, not_not, not_exists, ← Bool.not_eq_true, ← imp_iff_not_or]

theorem State.driveTermsNow_driver_iff (s : State) (w : Switches) : (s.driveTermsNow w).driver = true ↔
    w.park = false ∧ w.stop = false ∧ w.kneel = false := by
  simp [State.driveTermsNow, and_assoc]

theorem DriveTerms.all_iff (t : DriveTerms) : t.all = true ↔
    t.entrances = true ∧ t.readiness = true ∧ t.articulation = true ∧ t.driver = true := by
  simp [DriveTerms.all, and_assoc]

/-! ### The cab lines (R146) -/

theorem State.entranceAlerting_iff (s : State) :
    (entranceAlerting s.interlock.records.zero = true ∨ entranceAlerting s.interlock.records.one = true) ↔
      ∃ slot e, s.entrance slot = some e ∧ e.alerting = true := by
  have hslot (r : Option Entrance) : entranceAlerting r = true ↔ ∃ e, r = some e ∧ e.alerting = true := by
    cases r <;> simp [entranceAlerting]
  simp [Slot.exists_iff, hslot, State.entrance, atSlot]

theorem State.anyAlert_iff (s : State) : s.anyAlert = true ↔
    s.peerView.alerts ≠ [] ∨ s.joint.jackknife = true ∨ s.joint.limit = true ∨ s.steering.state = .pinned ∨
      s.slip.wheels.left.degraded = true ∨ s.slip.wheels.right.degraded = true ∨
      ∃ slot e, s.entrance slot = some e ∧ e.alerting = true := by
  rw [← s.entranceAlerting_iff]
  simp [State.anyAlert, State.ownAlert, or_assoc]

theorem State.warningNow_iff (s : State) : s.warningNow = true ↔
    s.peerView.alerts ≠ [] ∨ s.joint.jackknife = true ∨ s.joint.limit = true ∨ s.steering.state = .pinned ∨
      s.slip.wheels.left.degraded = true ∨ s.slip.wheels.right.degraded = true ∨
      (∃ slot e, s.entrance slot = some e ∧ e.alerting = true) ∨ s.ladder.mode = .backup ∨
      ∃ n, s.isPeer n = true ∧ ((s.peer n).heard = none ∨
        ∃ r, (s.peer n).heard = some r ∧ (r.mode = .backup ∨ r.anyBreach = true)) := by
  have hpeer (n : Fin 8) : ((s.peer n).heard.isNone || s.peerMode n == some .backup || s.peerBreach n) = true ↔
      ((s.peer n).heard = none ∨ ∃ r, (s.peer n).heard = some r ∧ (r.mode = .backup ∨ r.anyBreach = true)) := by
    cases hh : (s.peer n).heard <;> simp [State.peerMode, State.peerBreach, hh]
  rw [State.warningNow, Bool.or_eq_true, Bool.or_eq_true, State.anyAlert_iff, List.any_eq_true]
  simp only [State.mem_peerNumbers, hpeer, beq_iff_eq, or_assoc]

theorem State.entranceLineNow_iff (s : State) : s.entranceLineNow = true ↔
    s.interlock.entLocked = false ∨ ∃ n, s.isPeer n = true ∧ s.peerEntLocked n = false := by
  simp [State.entranceLineNow]

/-! ### A run (R144) -/

/-- What becomes of a frame offered does not hang on the interlock. -/
theorem State.offer_with_interlock (s : State) (i : Interlock) (e : Entry) :
    State.offer { s with interlock := i } e = { s with
      interlock := i
      link := (s.offer e).link
      service := (s.offer e).service } := by
  have hboth : (State.offer { s with interlock := i } e).link = (s.offer e).link ∧
      (State.offer { s with interlock := i } e).service = (s.offer e).service := by
    simp only [State.offer, State.replyLeft, State.offerReply]
    (repeat' split) <;> exact ⟨rfl, rfl⟩
  obtain ⟨hlink, hservice⟩ := hboth
  apply State.eq_of_blocks <;> simp [hlink, hservice]

/-- On the CAB station an accepted DEMAND under reverse holds the pulse accumulator at 0 (R38). -/
theorem State.freshened_eq_of_cab (h : s.isCab = true) (v : DemandValues) : (s.freshenDemand v).applyReverse = { s with
    peerView := { s.peerView with demand := { s.peerView.demand with
      freshness := .fresh
      age := 0
      values := v } }
    ladder := { s.ladder with noDemandCause := false }
    faults := (s.faults.finish .demandLost 0).finish .demandLost 1
    tracker := if v.rev = true then { s.tracker with
        accumulator := 0
        queue := if s.hasPath = true then [] else s.tracker.queue
        rejectionRun := if s.hasPath = true then 0 else s.tracker.rejectionRun }
      else s.tracker
    joint := if v.rev = true ∧ s.hasJoint = true then s.joint.afterClearing else s.joint } := by
  simp only [State.freshened_eq, h, if_true]

/-- The DEMAND frame, byte by byte. -/
theorem demandPayload_eq (v : DemandValues) : demandPayload v = bytesOf 2 v.d ++
    [BitVec.ofNat 8 ((if v.dValid then 1 else 0) + (if v.stop then 2 else 0) + (if v.kneel then 4 else 0) +
      (if v.park then 8 else 0) + (if v.rev then 16 else 0) + (if v.drive then 32 else 0) +
      (if v.ovr then 64 else 0))] ++ bytesOf 2 v.release.toNat := rfl

theorem State.demandDue_iff (h : s.isCab = true) : s.demandDue = true ↔ s.interlock.demandTimer = 0 := by
  simp [State.demandDue, h]

/-- Settles O43: the terms and the lines each by its own conditions, the record as an accepted DEMAND, under the watch of a
sweep. -/
theorem demandComputationFeedsTheRecord : Obligations.DemandComputationFeedsTheRecord := by
  refine fun w s hcab => ⟨fun ht => ?_, fun ht => ?_⟩
  · exact congrArg _ (if_neg (mt (State.demandDue_iff hcab).1 ht))
  have hexec : exec (.demandComputation w) s = .next (s.runDemand w) :=
    congrArg _ (if_pos ((State.demandDue_iff hcab).2 ht))
  have hlines : (s.runDemand w).interlock = (s.setLines w).interlock := s.runDemand_interlock w
  refine ⟨s.runDemand w, s.formDemand w, _, hexec, rfl, ?_, rfl, fun n _ => s.peerReads n, ?_⟩
  · have hoffer := s.offer_with_interlock (s.setLines w).interlock (newEntry .demand 8 (demandPayload (s.formDemand w)))
    have hrun : s.runDemand w = State.acceptDemand _ (s.formDemand w) := congrArg (State.acceptDemand · _) hoffer
    rw [hlines, hrun, State.acceptDemand, State.freshened_eq_of_cab (by exact hcab)]
    exact State.checkSweep_watches _
  · rw [hlines]
    exact ⟨s.driveTermsNow_entrances_iff w, s.driveTermsNow_readiness_iff w, s.driveTermsNow_articulation_iff w,
      s.driveTermsNow_driver_iff w, (s.driveTermsNow w).all_iff, s.warningNow_iff, s.entranceLineNow_iff⟩

end Sys2Proof.Machine
end

section
/-! PROOFS. The brake period: what its readings stand for, its stages in two forms of the brake record, one for
PASSTHROUGH and one for ELECTRIC, and the statement clause by clause. -/

namespace Sys2Proof.Machine

variable {s : State}

/-! ### Roundings and readings (R76, R81) -/

/-- A quotient rounded half away from zero lies within half a divisor of its dividend. -/
theorem roundHalfUp_bounds (n : Nat) {d : Nat} (hd : 0 < d) :
    2 * d * roundHalfUp n d ≤ 2 * n + d ∧ 2 * n + d < 2 * d * (roundHalfUp n d + 1) :=
  ⟨Nat.mul_div_le _ _, Nat.lt_mul_div_succ _ (by omega)⟩

theorem levelInRange_iff (v : Nat) : levelInRange v = true ↔ 500000 ≤ v ∧ v ≤ 4500000 := by simp [levelInRange]

theorem readings_of_out_of_range {v : Nat} (h : v < 500000 ∨ 4500000 < v) :
    pedalReading v = none ∧ chamberReading v = none := by
  have hr : ¬levelInRange v = true := by
    rw [levelInRange_iff]
    omega
  exact ⟨if_neg hr, if_neg hr⟩

theorem readings_of_in_range {v : Nat} (h1 : 500000 ≤ v) (h2 : v ≤ 4500000) :
    ∃ a p, pedalReading v = some a ∧ chamberReading v = some p ∧
      8000 * a ≤ 2 * (v - 500000) + 4000 ∧ 2 * (v - 500000) + 4000 < 8000 * (a + 1) ∧
      20000 * p ≤ 6 * (v - 500000) + 10000 ∧ 6 * (v - 500000) + 10000 < 20000 * (p + 1) := by
  have hr := (levelInRange_iff v).2 ⟨h1, h2⟩
  have hped := roundHalfUp_bounds (v - 500000) (d := 4000) (by decide)
  have hch := roundHalfUp_bounds (3 * (v - 500000)) (d := 10000) (by decide)
  exact ⟨_, _, if_pos hr, if_pos hr, by omega⟩

/-! ### Stage 1: chambers and pedals -/

theorem Sensor.read_readAs {α : Type} (q : Sensor α) (reading : Option α) : q.ReadAs (q.read reading).1 reading where
  lost h := by simp [h, Sensor.read]
  taken x h hv := by simp [h, Sensor.read, hv]
  counted x h hv hr := by simp [h, Sensor.read, hv, show q.recovery + 1 < 10 by omega]
  recovered x h hv hr := by simp [h, Sensor.read, hv, show ¬q.recovery + 1 < 10 by omega]

/-- A reading raises or ends its sensor's fault as the statements have it. -/
theorem State.sensorFault_read {α : Type} (s : State) (q : Sensor α) (reading : Option α) (c : FaultCode) (n : Nat) :
    s.sensorFault (q.read reading).2 c n = { s with faults := s.faults.afterReading q reading c n } := by
  cases reading with
  | none => rfl
  | some x =>
    unfold Sensor.read FaultList.afterReading
    by_cases hv : q.valid = true
    · simp [hv, State.sensorFault]
    · by_cases hr : q.recovery + 1 < 10
      · simp [hv, hr, State.sensorFault, show ¬9 ≤ q.recovery by omega]
      · simp [hv, hr, State.sensorFault, State.finish, show 9 ≤ q.recovery by omega]

theorem State.readChamber_eq (s : State) (side : Side) (v : Microvolt) : s.readChamber side v = { s with
    brake := { s.brake with
      chamber := putSide s.brake.chamber ((atSide s.brake.chamber side).read (chamberReading v)).1 side }
    faults := s.faults.afterReading (atSide s.brake.chamber side) (chamberReading v) .pressureSensor
      (sideNumber side) } :=
  State.sensorFault_read _ _ _ _ _

theorem State.pedalFault_eq (s : State) (before now : Bool) (q : Nat) : s.pedalFault before now q = { s with
    faults := s.faults.afterChange before now .pedalMismatch q } := by
  cases before <;> cases now <;> rfl

theorem State.readPedals_of_cab (h : s.isCab = true) (p : Pedals) : s.readPedals p = { s with
    brake := { s.brake with
      ped1 := pedalReading p.ped1
      ped2 := pedalReading p.ped2
      d := (greaterPedal (pedalReading p.ped1) (pedalReading p.ped2)).getD 0 * s.cfg.dmax / 1000
      dValid := (greaterPedal (pedalReading p.ped1) (pedalReading p.ped2)).isSome
      mismatch0 := pedalsDiffer (pedalReading p.ped1) (pedalReading p.ped2)
      mismatch1 := (pedalReading p.ped1).isNone
      mismatch2 := (pedalReading p.ped2).isNone }
    faults := ((s.faults.afterChange s.brake.mismatch0 (pedalsDiffer (pedalReading p.ped1) (pedalReading p.ped2))
      .pedalMismatch 0).afterChange s.brake.mismatch1 (pedalReading p.ped1).isNone .pedalMismatch 1).afterChange
      s.brake.mismatch2 (pedalReading p.ped2).isNone .pedalMismatch 2 } := by
  simp only [State.readPedals, h, State.pedalFault_eq]
  rfl

/-- The chambers' faults are reported before the pedals' (log entry 34). -/
def State.chamberFaults (s : State) (ch : Sides Microvolt) : FaultList :=
  (s.faults.afterReading s.brake.chamber.left (chamberReading ch.left) .pressureSensor 0).afterReading
    s.brake.chamber.right (chamberReading ch.right) .pressureSensor 1

/-- The state after stage 1. -/
def State.brakeRead (s : State) (ch : Sides Microvolt) (ped : Pedals) : State :=
  ((s.readChamber .left ch.left).readChamber .right ch.right).readPedals ped

/-- The brake record `b` and the fault list `f` that stage 1 leaves (R76, R77, R81). -/
structure State.BrakeReads (s : State) (ch : Sides Microvolt) (ped : Pedals) (b : Brake) (f : FaultList) : Prop where
  deficit : b.deficit = s.brake.deficit
  chamber : ∀ side, (atSide s.brake.chamber side).ReadAs (atSide b.chamber side) (chamberReading (atSide ch side))
  other : s.isCab = false → b.ped1 = s.brake.ped1 ∧ b.ped2 = s.brake.ped2 ∧ b.d = s.brake.d ∧
    b.dValid = s.brake.dValid ∧ b.mismatch0 = s.brake.mismatch0 ∧ b.mismatch1 = s.brake.mismatch1 ∧
    b.mismatch2 = s.brake.mismatch2 ∧ f = s.chamberFaults ch
  cab : s.isCab = true → b.ped1 = pedalReading ped.ped1 ∧ b.ped2 = pedalReading ped.ped2 ∧
    b.d = (greaterPedal b.ped1 b.ped2).getD 0 * s.cfg.dmax / 1000 ∧ b.dValid = (greaterPedal b.ped1 b.ped2).isSome ∧
    b.mismatch0 = pedalsDiffer b.ped1 b.ped2 ∧ b.mismatch1 = b.ped1.isNone ∧ b.mismatch2 = b.ped2.isNone ∧
    f = (((s.chamberFaults ch).afterChange s.brake.mismatch0 b.mismatch0 .pedalMismatch 0).afterChange
      s.brake.mismatch1 b.mismatch1 .pedalMismatch 1).afterChange s.brake.mismatch2 b.mismatch2 .pedalMismatch 2

/-- Stage 1 touches the brake record and the fault list alone. -/
theorem State.brakeRead_reads (s : State) (ch : Sides Microvolt) (ped : Pedals) :
    ∃ b f, s.brakeRead ch ped = { s with brake := b, faults := f } ∧ s.BrakeReads ch ped b f := by
  have hchambers : (s.readChamber .left ch.left).readChamber .right ch.right = { s with
      brake := { s.brake with chamber := ⟨(s.brake.chamber.left.read (chamberReading ch.left)).1,
        (s.brake.chamber.right.read (chamberReading ch.right)).1⟩ }
      faults := s.chamberFaults ch } := by
    simp only [State.readChamber_eq]
    rfl
  have hreads (side : Side) : (atSide s.brake.chamber side).ReadAs
      (atSide ⟨(s.brake.chamber.left.read (chamberReading ch.left)).1,
        (s.brake.chamber.right.read (chamberReading ch.right)).1⟩ side) (chamberReading (atSide ch side)) := by
    cases side <;> exact Sensor.read_readAs _ _
  rw [State.brakeRead, hchambers]
  cases hcab : s.isCab with
  | false =>
    refine ⟨_, _, if_pos (congrArg not hcab), rfl, hreads, fun _ => ⟨rfl, rfl, rfl, rfl, rfl, rfl, rfl, rfl⟩, fun h => ?_⟩
    simp [hcab] at h
  | true =>
    rw [State.readPedals_of_cab (by exact hcab)]
    refine ⟨_, _, rfl, rfl, hreads, fun h => ?_, fun _ => ⟨rfl, rfl, rfl, rfl, rfl, rfl, rfl, rfl⟩⟩
    simp [hcab] at h

/-- D, D_valid and the mismatch of the two pedal channels, as the manual words them (R77). -/
theorem greaterPedal_cases (a b : Option Nat) (dmax : Nat) :
    (∀ x y, a = some x → b = some y → (greaterPedal a b).getD 0 * dmax / 1000 = max x y * dmax / 1000) ∧
    (∀ x, a = some x → b = none → (greaterPedal a b).getD 0 * dmax / 1000 = x * dmax / 1000) ∧
    (∀ y, a = none → b = some y → (greaterPedal a b).getD 0 * dmax / 1000 = y * dmax / 1000) ∧
    (a = none → b = none → (greaterPedal a b).getD 0 * dmax / 1000 = 0) ∧
    ((greaterPedal a b).isSome = false ↔ a = none ∧ b = none) := by
  cases a <;> cases b <;> simp [greaterPedal]

theorem pedalsDiffer_iff (a b : Option Nat) :
    pedalsDiffer a b = true ↔ ∃ x y, a = some x ∧ b = some y ∧ (x + 50 < y ∨ y + 50 < x) := by
  match a, b with
  | some x, some y =>
    simp [pedalsDiffer]
    omega
  | some _, none | none, some _ | none, none => simp [pedalsDiffer]

/-! ### Stages 2 to 5: the brake record of a period -/

/-- Stages 2 to 5. -/
def State.brakeDecided (s : State) : State := s.decideBrake.shareBraking.driveModulators.measureBraking

/-- A wheel's position in ELECTRIC (R82, R89, R90). -/
def State.electricPosition (s : State) (side : Side) : ModPosition :=
  if s.passCause side ≠ .none ∨ s.sweeping = true then .openToDriver
  else loopPosition s.cfg.pMax (atSide s.slip.wheels side).target (atSide s.brake.chamber side).value

/-- A wheel's effective pressure in ELECTRIC (R91). -/
def State.electricPressure (s : State) (side : Side) : Nat :=
  if s.passCause side = .none then min (atSide s.slip.wheels side).target s.electricShares.pBase
  else s.electricShares.pBase

/-- The brake record after a period in ELECTRIC. -/
def State.electricBrake (s : State) : Brake :=
  { s.electricShares with
    state := .electric
    cause := ⟨s.passCause .left, s.passCause .right⟩
    targets := ⟨s.slip.wheels.left.target, s.slip.wheels.right.target⟩
    position := ⟨s.electricPosition .left, s.electricPosition .right⟩
    driving := !s.sweeping
    deficit := s.electricShares.fBase -
      s.cfg.forcePerKpa * (s.electricPressure .left + s.electricPressure .right) / 2
    confirmed := s.confirmedNow }

/-- The brake record after a period in PASSTHROUGH (R79). -/
def State.passthroughBrake (s : State) : Brake :=
  { s.brake.noShares with
    state := .passthrough
    cause := ⟨s.passCause .left, s.passCause .right⟩
    targets := ⟨s.slip.wheels.left.target, s.slip.wheels.right.target⟩
    position := ⟨.openToDriver, .openToDriver⟩
    driving := !s.sweeping
    deficit := 0
    confirmed := s.confirmedNow }

theorem State.decideBrake_of_passthrough (h : s.passesThrough = true) : s.decideBrake.shareBraking = { s with brake :=
    { s.brake.noShares with
      state := .passthrough
      cause := ⟨s.passCause .left, s.passCause .right⟩ } } := by
  simp only [State.decideBrake, h]
  rfl

/-- The state after stage 3 in ELECTRIC. -/
def State.electricShared (s : State) : State := { s with brake := { s.electricShares with
  state := .electric
  cause := ⟨s.passCause .left, s.passCause .right⟩ } }

theorem State.decideBrake_of_electric (h : s.passesThrough = false) :
    s.decideBrake.shareBraking = s.electricShared := by
  simp only [State.decideBrake, h]
  rfl

theorem State.electricShared_cause (s : State) (side : Side) :
    atSide s.electricShared.brake.cause side = s.passCause side := by cases side <;> rfl

theorem State.electricShared_modulator (s : State) (side : Side) :
    s.electricShared.modulator side = s.electricPosition side := by
  have hstate : s.electricShared.brake.state = .electric := rfl
  have hsweep : s.electricShared.sweeping = s.sweeping := rfl
  refine if_congr ?_ rfl rfl
  simp [hstate, hsweep, State.electricShared_cause, or_comm]

theorem State.electricShared_effective (s : State) (side : Side) :
    s.electricShared.effective side = s.electricPressure side := by
  by_cases hc : s.passCause side = .none
  · exact (if_neg (by simp [State.electricShared_cause, hc])).trans (if_pos hc).symm
  · exact (if_pos (by simp [State.electricShared_cause, hc])).trans (if_neg hc).symm

theorem State.brakeDecided_of_passthrough (h : s.passesThrough = true) :
    s.brakeDecided = { s with brake := s.passthroughBrake } := by
  rw [State.brakeDecided, State.decideBrake_of_passthrough h]
  rfl

theorem State.brakeDecided_of_electric (h : s.passesThrough = false) :
    s.brakeDecided = { s with brake := s.electricBrake } := by
  rw [State.brakeDecided, State.decideBrake_of_electric h]
  simp only [State.electricBrake, ← State.electricShared_modulator, ← State.electricShared_effective]
  rfl

/-- A period ends with the one record or with the other, and touches nothing else after stage 1. -/
theorem State.brakeDecided_cases (s : State) :
    (s.passesThrough = true ∧ s.brakeDecided = { s with brake := s.passthroughBrake }) ∨
      (s.passesThrough = false ∧ s.brakeDecided = { s with brake := s.electricBrake }) := by
  cases h : s.passesThrough with
  | true => exact .inl ⟨rfl, State.brakeDecided_of_passthrough h⟩
  | false => exact .inr ⟨rfl, State.brakeDecided_of_electric h⟩

theorem State.passesThrough_iff (s : State) : s.passesThrough = true ↔
    s.ladder.mode = .backup ∨ s.demandFreshness = .lost ∨ s.demand.dValid = false := by
  simp [State.passesThrough, or_assoc]

/-- What stands in both records: the readings of stage 1, the causes, the targets, the drive and the confirmation. -/
structure State.BrakeKeeps (s : State) (b : Brake) : Prop where
  chamber : b.chamber = s.brake.chamber
  pedals : b.ped1 = s.brake.ped1 ∧ b.ped2 = s.brake.ped2
  demand : b.d = s.brake.d ∧ b.dValid = s.brake.dValid
  mismatches : b.mismatch0 = s.brake.mismatch0 ∧ b.mismatch1 = s.brake.mismatch1 ∧ b.mismatch2 = s.brake.mismatch2
  cause : b.cause = ⟨s.passCause .left, s.passCause .right⟩
  targets : b.targets = ⟨s.slip.wheels.left.target, s.slip.wheels.right.target⟩
  driving : b.driving = !s.sweeping
  confirmed : b.confirmed = s.confirmedNow

theorem State.brakeDecided_frame (s : State) : s.brakeDecided = { s with brake := s.brakeDecided.brake } := by
  rcases s.brakeDecided_cases with ⟨-, h⟩ | ⟨-, h⟩ <;> rw [h]

theorem State.brakeDecided_keeps (s : State) : s.BrakeKeeps s.brakeDecided.brake := by
  rcases s.brakeDecided_cases with ⟨-, h⟩ | ⟨-, h⟩ <;> rw [h] <;>
    exact ⟨rfl, ⟨rfl, rfl⟩, ⟨rfl, rfl⟩, ⟨rfl, rfl, rfl⟩, rfl, rfl, rfl, rfl⟩

/-- The deficit is a part of the base share (R91). -/
theorem State.brakeDecided_deficit_le (s : State) : s.brakeDecided.brake.deficit ≤ s.brakeDecided.brake.fBase := by
  rcases s.brakeDecided_cases with ⟨-, h⟩ | ⟨-, h⟩ <;> rw [h]
  · exact Nat.zero_le _
  · exact Nat.sub_le _ _

theorem State.atSide_cause (s : State) (side : Side) :
    atSide s.brakeDecided.brake.cause side = s.passCause side := by
  rw [s.brakeDecided_keeps.cause]
  cases side <;> rfl

theorem State.electricBrake_position (s : State) (side : Side) :
    atSide s.electricBrake.position side = s.electricPosition side := by cases side <;> rfl

/-- A wheel with a cause, and every wheel during a sweep, is open to the driver (R82, R89). -/
theorem State.position_of_open {side : Side} (h : s.passCause side ≠ .none ∨ s.sweeping = true) :
    atSide s.brakeDecided.brake.position side = .openToDriver := by
  rcases s.brakeDecided_cases with ⟨-, he⟩ | ⟨-, he⟩ <;> rw [he]
  · cases side <;> rfl
  · exact (s.electricBrake_position side).trans (if_pos h)

/-- Every other wheel follows the pressure loop (R89). -/
theorem State.position_of_loop {side : Side} {p : Nat} (hstate : s.brakeDecided.brake.state = .electric)
    (hsweep : s.sweeping = false) (hcause : s.passCause side = .none)
    (hp : (atSide s.brake.chamber side).value = some p) :
    atSide s.brakeDecided.brake.position side =
      if p + 10 < min (atSide s.slip.wheels side).target s.cfg.pMax then .admitAir
      else if min (atSide s.slip.wheels side).target s.cfg.pMax + 10 < p then .vent
      else .hold := by
  rcases s.brakeDecided_cases with ⟨-, he⟩ | ⟨-, he⟩ <;> rw [he] at hstate ⊢
  · exact nomatch hstate
  · refine (s.electricBrake_position side).trans ?_
    simp [State.electricPosition, hcause, hsweep, loopPosition, hp]

/-! ### Causes, coils, confirmation and bias -/

theorem State.passCause_eq (s : State) (side : Side) : s.passCause side =
    if s.coilFailed (wheelCoils side).1 = true ∨ s.coilFailed (wheelCoils side).2 = true then .coil
    else if (atSide s.brake.chamber side).valid = false then .sensor
    else .none := by
  simp [State.passCause]

theorem ModPosition.admitCoil_iff (m : ModPosition) : m.admitCoil = true ↔ m = .admitAir ∨ m = .vent := by
  cases m <;> simp [ModPosition.admitCoil]

theorem ModPosition.holdCoil_iff (m : ModPosition) : m.holdCoil = true ↔ m = .admitAir ∨ m = .hold := by
  cases m <;> simp [ModPosition.holdCoil]

/-- Out of a sweep a wheel's two coils are those of its position (R90). -/
theorem State.coilOn_of_driving (hs : s.sweeping = false) (hd : s.brake.driving = true) (side : Side) :
    (s.coilOn (2 * sideNumber side) = true ↔
      atSide s.brake.position side = .admitAir ∨ atSide s.brake.position side = .vent) ∧
    (s.coilOn (2 * sideNumber side + 1) = true ↔
      atSide s.brake.position side = .admitAir ∨ atSide s.brake.position side = .hold) := by
  rw [← ModPosition.admitCoil_iff, ← ModPosition.holdCoil_iff]
  cases side <;> simp [State.coilOn, hs, hd, sideNumber, atSide]

theorem State.confirmedNow_iff (s : State) : s.confirmedNow = true ↔
    s.brake.chamber.left.valid = true ∧ s.brake.chamber.right.valid = true ∧
      ∃ l r, s.brake.chamber.left.value = some l ∧ s.brake.chamber.right.value = some r ∧
        s.cfg.confirmThreshold ≤ l ∧ s.cfg.confirmThreshold ≤ r := by
  have hleast (q : Sensor Nat) : q.atLeast s.cfg.confirmThreshold = true ↔
      q.valid = true ∧ ∃ p, q.value = some p ∧ s.cfg.confirmThreshold ≤ p := by
    cases hq : q.value <;> simp [Sensor.atLeast, hq]
  simp only [State.confirmedNow, Bool.and_eq_true, hleast]
  constructor
  · rintro ⟨⟨hl, l, hvl, htl⟩, hr, r, hvr, htr⟩
    exact ⟨hl, hr, l, r, hvl, hvr, htl, htr⟩
  · rintro ⟨hl, hr, l, r, hvl, hvr, htl, htr⟩
    exact ⟨⟨hl, l, hvl, htl⟩, hr, r, hvr, htr⟩

/-- The joints in front of a section are three at most (R71, R84). -/
theorem State.bias_eq (s : State) (k : Nat) : s.bias k = 1000 + s.cfg.stretch * k + s.cfg.boost *
    ((if 0 < k ∧ s.jackknifed 0 = true then 1 else 0) + (if 1 < k ∧ s.jackknifed 1 = true then 1 else 0) +
      (if 2 < k ∧ s.jackknifed 2 = true then 1 else 0)) := by
  have hcount (p : Nat → Bool) : ((List.range 3).filter p).length =
      (if p 0 = true then 1 else 0) + (if p 1 = true then 1 else 0) + (if p 2 = true then 1 else 0) := by
    have hrange : List.range 3 = [0, 1, 2] := rfl
    simp only [← List.countP_eq_length_filter, hrange, List.countP_cons, List.countP_nil]
    omega
  simp only [State.bias, State.jackknifesBefore, hcount, Bool.and_eq_true, decide_eq_true_eq]

theorem State.ableSum_eq (s : State) (prev : Nat) : s.ableSum prev =
    (if prev = 0 then s.ownWeight else 0) + (s.peerNumbers.map fun n =>
      if (s.peer n).heard.isSome = true ∧ s.peerDeficit n = 0 then s.peerLoad n * s.bias (s.peerSection n) else 0).sum := by
  have hable : s.ableWeight = fun n =>
      if (s.peer n).heard.isSome = true ∧ s.peerDeficit n = 0 then s.peerLoad n * s.bias (s.peerSection n) else 0 :=
    funext fun n => if_congr (by simp) rfl rfl
  simp [State.ableSum, hable]

theorem takeoverOf_eq (prev defSum wOwn wNoDef cap : Nat) : takeoverOf prev defSum wOwn wNoDef cap =
    if 0 < prev ∨ defSum = 0 then 0 else min (defSum * wOwn / wNoDef) cap := by
  simp [takeoverOf, Nat.pos_iff_ne_zero]

theorem takeoverOf_le (prev defSum wOwn wNoDef cap : Nat) : takeoverOf prev defSum wOwn wNoDef cap ≤ cap := by
  unfold takeoverOf
  split
  · exact Nat.zero_le _
  · exact Nat.min_le_right _ _

/-! ### The statement -/

/-- Settles O35: the two forms of the record after a period, on what stage 1 has read. Stage 1 leaves all but the brake
record and the fault list, so what stages 2 to 5 read of the rest of the state is what the period began with. -/
theorem brakePeriodSharesTheDemand : Obligations.BrakePeriodSharesTheDemand := by
  refine ⟨fun v => ⟨readings_of_out_of_range, readings_of_in_range⟩, fun ch ped s hl => ?_⟩
  obtain ⟨b, f, hu, hreads⟩ := s.brakeRead_reads ch ped
  let u : State := { s with brake := b, faults := f }
  have hexec : exec (.brakePeriod ch ped) s = .next u.brakeDecided :=
    congrArg _ ((if_pos hl).trans (congrArg State.brakeDecided hu))
  have hframe : u.brakeDecided = { u with brake := u.brakeDecided.brake } := u.brakeDecided_frame
  have hfaults : u.brakeDecided.faults = f := congrArg State.faults hframe
  have hkeeps := u.brakeDecided_keeps
  have hchamber : u.brakeDecided.brake.chamber = b.chamber := hkeeps.chamber
  obtain ⟨hped1, hped2⟩ : u.brakeDecided.brake.ped1 = b.ped1 ∧ u.brakeDecided.brake.ped2 = b.ped2 := hkeeps.pedals
  obtain ⟨hd, hdv⟩ : u.brakeDecided.brake.d = b.d ∧ u.brakeDecided.brake.dValid = b.dValid := hkeeps.demand
  obtain ⟨hm0, hm1, hm2⟩ : u.brakeDecided.brake.mismatch0 = b.mismatch0 ∧
    u.brakeDecided.brake.mismatch1 = b.mismatch1 ∧ u.brakeDecided.brake.mismatch2 = b.mismatch2 := hkeeps.mismatches
  have hdriving : u.brakeDecided.brake.driving = !s.sweeping := hkeeps.driving
  refine ⟨u.brakeDecided, hexec, ?frame, fun n _ => s.peerReads n, s.bias_eq, ?chambers, ?other, ?cab, ?coils,
    hkeeps.targets, ?driving, ?passthrough, ?electric, ?cause, ?isOpen, ?loop, u.brakeDecided_deficit_le, ?confirmed⟩
  case frame =>
    rw [hfaults]
    exact hframe
  case chambers =>
    rw [hchamber]
    exact hreads.chamber
  case other =>
    rw [hped1, hped2, hd, hdv, hm0, hm1, hm2, hfaults]
    exact hreads.other
  case cab =>
    intro hcab
    obtain ⟨h1, h2, hD, hV, hM0, hM1, hM2, hF⟩ := hreads.cab hcab
    obtain ⟨hboth, hfirst, hsecond, hnone, hvalid⟩ := greaterPedal_cases b.ped1 b.ped2 s.cfg.dmax
    rw [hped1, hped2, hd, hdv, hm0, hm1, hm2, hfaults]
    refine ⟨h1, h2, ?_, ?_, ?_, ?_, ?_, ?_, ?_, ?_, hF⟩
    · simpa only [hD] using hboth
    · simpa only [hD] using hfirst
    · simpa only [hD] using hsecond
    · simpa only [hD] using hnone
    · simpa only [hV] using hvalid
    · exact hM0 ▸ pedalsDiffer_iff _ _
    · exact hM1 ▸ Option.isNone_iff_eq_none
    · exact hM2 ▸ Option.isNone_iff_eq_none
  case coils =>
    intro hs
    have hsweep : u.brakeDecided.sweeping = false := by
      rw [hframe]
      exact hs
    exact State.coilOn_of_driving hsweep (by rw [hdriving, hs]; rfl)
  case driving => simp [hdriving]
  case passthrough =>
    intro h
    rw [State.brakeDecided_of_passthrough (u.passesThrough_iff.2 h)]
    exact ⟨rfl, rfl, rfl, rfl, rfl, rfl, rfl, rfl, rfl, rfl, rfl, rfl, rfl, rfl, rfl⟩
  case electric =>
    intro hmode hlost hvalid
    have hpass : u.passesThrough = false := by
      rw [Bool.eq_false_iff, ne_eq, u.passesThrough_iff]
      rintro (h | h | h)
      · exact hmode h
      · exact hlost h
      · exact nomatch hvalid.symm.trans h
    rw [State.brakeDecided_of_electric hpass, ← hreads.deficit]
    refine ⟨rfl, rfl, rfl, rfl, rfl, rfl, ?_, rfl, u.ableSum_eq _, rfl, takeoverOf_eq _ _ _ _ _, takeoverOf_le _ _ _ _ _,
      ?_, _, _, rfl, rfl, rfl⟩
    · exact fun hw => roundHalfUp_bounds _ (Nat.mul_pos (by decide) hw)
    · intro hk
      obtain ⟨hlow, hhigh⟩ := roundHalfUp_bounds u.electricShares.fBase hk
      obtain ⟨hlow', hhigh'⟩ := roundHalfUp_bounds (u.electricShares.fBase + u.electricShares.takeover) hk
      exact ⟨hlow, hhigh, _, hlow', hhigh', rfl⟩
  case cause =>
    intro side
    rw [u.atSide_cause, hchamber]
    exact u.passCause_eq side
  case isOpen =>
    intro side h
    rw [u.atSide_cause] at h
    exact State.position_of_open h
  case loop =>
    intro side p hstate hs hc hp
    rw [u.atSide_cause] at hc
    rw [hchamber] at hp
    exact State.position_of_loop hstate hs hc hp
  case confirmed =>
    rw [hkeeps.confirmed, hchamber]
    exact u.confirmedNow_iff

end Sys2Proof.Machine
end

section
/-! PROOFS. The path queue as a list: what growing and pruning leave of it, and that every step keeps its rule. -/

namespace Sys2Proof.Machine

/-! ### The newest entries of a list -/

theorem rtake_length_le {α : Type} (l : List α) (n : Nat) : (l.rtake n).length ≤ n := by
  simp only [List.rtake, List.length_drop]
  omega

/-- What is left of the newest `m` and of more entries after them, cut to no more than `m`. -/
theorem rtake_rtake_append {α : Type} (l r : List α) {n m : Nat} (h : n ≤ m) :
    (l.rtake m ++ r).rtake n = (l ++ r).rtake n := by
  simp only [List.rtake_eq_reverse_take_reverse, List.reverse_append, List.reverse_reverse, List.take_append,
    List.take_take, Nat.min_eq_left (show n - r.reverse.length ≤ m by omega)]

theorem rtake_rtake {α : Type} (l : List α) (n m : Nat) : (l.rtake m).rtake n = l.rtake (min m n) := by
  simp only [List.rtake_eq_reverse_take_reverse, List.reverse_reverse, List.take_take, Nat.min_comm]

theorem rtake_of_length_le {α : Type} {l : List α} {n : Nat} (h : l.length ≤ n) : l.rtake n = l := by
  simp [List.rtake, Nat.sub_eq_zero_of_le h]

/-! ### Entries with consecutive indices -/

/-- Each entry's index is the one after the entry's before it (R44). -/
def Sample.Precedes (a b : Sample) : Prop := b.index = a.index + 1

/-- A path queue as R42 and R44 have it. -/
structure PathQueue (q : List Sample) : Prop where
  depth : q.length ≤ 256
  consecutive : q.IsChain Sample.Precedes
  curvature : ∀ e ∈ q, -1000 ≤ e.kappa ∧ e.kappa ≤ 1000

theorem Tracker.pathOk_iff (t : Tracker) : t.PathOk ↔ PathQueue t.queue ∧ t.rejectionRun ≤ 7 :=
  ⟨fun h => ⟨⟨h.depth, h.consecutive, h.curvature⟩, h.run⟩,
    fun ⟨h, hr⟩ => ⟨h.depth, h.consecutive, h.curvature, hr⟩⟩

theorem PathQueue.nil : PathQueue [] := ⟨by simp, .nil, nofun⟩

theorem PathQueue.singleton {e : Sample} (h : -1000 ≤ e.kappa ∧ e.kappa ≤ 1000) : PathQueue [e] :=
  ⟨by simp, .singleton _, by simpa using h⟩

theorem PathQueue.of_suffix {q r : List Sample} (h : PathQueue q) (hs : r <:+ q) : PathQueue r :=
  ⟨hs.length_le.trans h.depth, h.consecutive.suffix hs, fun e he => h.curvature e (hs.mem he)⟩

@[simp] theorem newestIndex_concat (q : List Sample) (e : Sample) : newestIndex (q ++ [e]) = some e.index := by
  simp [newestIndex]

theorem newestIndex_of_getLast {q : List Sample} {tail : Sample} (h : q.getLast? = some tail) :
    newestIndex q = some tail.index := by simp [newestIndex, h]

/-- A chain goes on with the index after its newest. -/
theorem chain_concat {q : List Sample} {n : Half} {e : Sample} (hq : q.IsChain Sample.Precedes)
    (hn : newestIndex q = some n) (he : e.index = n + 1) : (q ++ [e]).IsChain Sample.Precedes := by
  refine List.isChain_append.2 ⟨hq, .singleton _, fun x hx y hy => ?_⟩
  obtain rfl : e = y := by simpa using hy
  have hxn : x.index = n := by simpa [newestIndex, Option.mem_def.1 hx] using hn
  rw [Sample.Precedes, he, hxn]

/-- The newest entry of a chain is as many indices on as entries stand behind the oldest. -/
theorem newestIndex_cons {a : Sample} {q : List Sample} (h : (a :: q).IsChain Sample.Precedes) :
    newestIndex (a :: q) = some (a.index + BitVec.ofNat 16 q.length) := by
  induction q generalizing a with
  | nil => simp [newestIndex]
  | cons b q ih =>
    obtain ⟨hab, hq⟩ := List.isChain_cons_cons.1 h
    have hlast : newestIndex (a :: b :: q) = newestIndex (b :: q) := by simp [newestIndex]
    have hb : b.index = a.index + 1#16 := hab
    rw [hlast, ih hq, hb, List.length_cons, BitVec.ofNat_add, BitVec.add_assoc, BitVec.add_comm 1#16]

/-! ### Filled entries (R44) -/

/-- `k` filled entries after index `newest`. -/
def filledEntries (newest : Half) (kappa : Int) (k : Nat) : List Sample :=
  (List.range k).map fun j => ⟨newest + BitVec.ofNat 16 (j + 1), kappa, true⟩

theorem filledEntries_succ (newest : Half) (kappa : Int) (k : Nat) : filledEntries newest kappa (k + 1) =
    filledEntries newest kappa k ++ [⟨newest + BitVec.ofNat 16 (k + 1), kappa, true⟩] := by
  simp [filledEntries, List.range_succ]

theorem filled_chain {q : List Sample} {n : Half} (hq : q.IsChain Sample.Precedes) (hn : newestIndex q = some n)
    (kappa : Int) (k : Nat) : (q ++ filledEntries n kappa k).IsChain Sample.Precedes ∧
      newestIndex (q ++ filledEntries n kappa k) = some (n + BitVec.ofNat 16 k) := by
  induction k with
  | zero => simpa [filledEntries] using ⟨hq, hn⟩
  | succ k ih =>
    obtain ⟨hchain, hlast⟩ := ih
    rw [filledEntries_succ, ← List.append_assoc]
    refine ⟨chain_concat hchain hlast ?_, newestIndex_concat _ _⟩
    rw [BitVec.ofNat_add, BitVec.add_assoc]
    rfl

/-! ### Growing: a push keeps the newest 256 entries (R44) -/

theorem pushSample_eq {q : List Sample} (h : q.length ≤ 256) (e : Sample) :
    pushSample q e = (q ++ [e]).rtake 256 := by
  unfold pushSample
  split
  · have hlen : q.length = 256 := by omega
    simp [List.rtake, hlen, List.drop_append]
  · rw [rtake_of_length_le (by simp; omega)]

theorem fillGap_eq {q : List Sample} (h : q.length ≤ 256) (n : Half) (kappa : Int) (k : Nat) :
    fillGap q n kappa k = (q ++ filledEntries n kappa k).rtake 256 := by
  induction k with
  | zero => simpa [fillGap, filledEntries] using (rtake_of_length_le h).symm
  | succ k ih =>
    rw [fillGap, ih, pushSample_eq (rtake_length_le _ _), rtake_rtake_append _ _ le_rfl, filledEntries_succ,
      List.append_assoc]

/-- The entries an arrival of index `i` and gap `g` adds: the missing ones, then itself (R43, R44). -/
def addedEntries (tail : Sample) (g : Nat) (e : Sample) : List Sample := filledEntries tail.index tail.kappa (g - 1) ++ [e]

theorem push_fillGap_eq {q : List Sample} (h : q.length ≤ 256) (tail : Sample) (g : Nat) (e : Sample) :
    pushSample (fillGap q tail.index tail.kappa (g - 1)) e = (q ++ addedEntries tail g e).rtake 256 := by
  rw [fillGap_eq h, pushSample_eq (rtake_length_le _ _), rtake_rtake_append _ _ le_rfl, addedEntries, List.append_assoc]

/-- The index `g` on from the newest. -/
theorem index_of_gapOf {i newest : Half} {g : Nat} (h : gapOf i newest = g) : i = newest + BitVec.ofNat 16 g := by
  have hsub : i - newest = BitVec.ofNat 16 g := by
    rw [← BitVec.ofInt_toInt (x := i - newest), show (i - newest).toInt = (g : Int) from h, BitVec.ofInt_natCast]
  rw [← hsub, BitVec.add_comm, BitVec.sub_add_cancel]

theorem added_chain {q : List Sample} {tail e : Sample} {g : Nat} (hq : q.IsChain Sample.Precedes)
    (ht : q.getLast? = some tail) (hg : 1 ≤ g) (he : gapOf e.index tail.index = g) :
    (q ++ addedEntries tail g e).IsChain Sample.Precedes := by
  obtain ⟨hchain, hlast⟩ := filled_chain hq (newestIndex_of_getLast ht) tail.kappa (g - 1)
  rw [addedEntries, ← List.append_assoc]
  refine chain_concat hchain hlast ?_
  obtain ⟨k, rfl⟩ : ∃ k, g = k + 1 := ⟨g - 1, by omega⟩
  rw [index_of_gapOf he, Nat.add_sub_cancel, BitVec.ofNat_add, BitVec.add_assoc]
  rfl

/-- Filled entries copy the curvature of the newest entry they stand after. -/
theorem added_curvature {q : List Sample} {tail e : Sample} {g : Nat} (hq : PathQueue q)
    (ht : q.getLast? = some tail) (he : -1000 ≤ e.kappa ∧ e.kappa ≤ 1000) :
    ∀ x ∈ addedEntries tail g e, -1000 ≤ x.kappa ∧ x.kappa ≤ 1000 := by
  intro x hx
  rcases List.mem_append.1 hx with hx | hx
  · obtain ⟨j, -, rfl⟩ := List.mem_map.1 hx
    exact hq.curvature tail (List.mem_of_getLast? ht)
  · obtain rfl : x = e := by simpa using hx
    exact he

/-- A queue that goes on with consecutive entries is a path queue again once it is cut to its newest 256. -/
theorem PathQueue.grown {q added : List Sample} (h : PathQueue q) (hc : (q ++ added).IsChain Sample.Precedes)
    (ha : ∀ x ∈ added, -1000 ≤ x.kappa ∧ x.kappa ≤ 1000) : PathQueue ((q ++ added).rtake 256) where
  depth := rtake_length_le _ _
  consecutive := hc.drop _
  curvature x hx := (List.mem_append.1 (List.mem_of_mem_drop hx)).elim (h.curvature x) (ha x)

/-! ### Pruning (R47) -/

theorem prune_suffix (offset : Nat) (q : List Sample) : prune offset q <:+ q := by
  unfold prune
  split
  · exact List.suffix_refl _
  · exact List.dropWhile_suffix _

/-- The entries more than `offset` behind the newest are the ones before the last `offset + 1`. -/
theorem dropWhile_older {q : List Sample} {n : Half} (offset : Nat) (hq : q.IsChain Sample.Precedes)
    (hl : q.length ≤ 65536) (hn : newestIndex q = some n) :
    q.dropWhile (fun e => decide (offset < (n - e.index).toNat)) = q.rtake (offset + 1) := by
  induction q with
  | nil => simp
  | cons a q ih =>
    have hdist : (n - a.index).toNat = q.length := by
      obtain rfl : a.index + BitVec.ofNat 16 q.length = n := Option.some.inj ((newestIndex_cons hq).symm.trans hn)
      rw [BitVec.add_comm, BitVec.add_sub_cancel, BitVec.toNat_ofNat]
      simp only [List.length_cons] at hl
      omega
    by_cases ho : offset < q.length
    · have hne : q ≠ [] := by rintro rfl; simp at ho
      have hn' : newestIndex q = some n := by
        rw [← hn, newestIndex, newestIndex, List.getLast?_cons_of_ne_nil hne]
      rw [List.dropWhile_cons_of_pos (by simpa [hdist] using ho),
        ih hq.of_cons (by simp at hl; omega) hn', List.rtake, List.rtake, List.length_cons,
        show q.length + 1 - (offset + 1) = (q.length - (offset + 1)) + 1 by omega, List.drop_succ_cons]
    · rw [List.dropWhile_cons_of_neg (by simpa [hdist] using ho), rtake_of_length_le (by simp; omega)]

/-- Pruning leaves the newest `offset + 1` entries. -/
theorem prune_eq {q : List Sample} (h : PathQueue q) (offset : Nat) : prune offset q = q.rtake (offset + 1) := by
  unfold prune
  split
  · next hn =>
    obtain rfl : q = [] := by simpa [newestIndex] using hn
    exact (List.rtake_nil _).symm
  · next n hn => exact dropWhile_older offset h.consecutive (h.depth.trans (by omega)) hn

theorem newestIndex_of_suffix {q r : List Sample} (hs : r <:+ q) (hr : r ≠ []) : newestIndex r = newestIndex q := by
  obtain ⟨l, rfl⟩ := hs
  simp [newestIndex, List.getLast?_append_of_ne_nil l hr]

/-- A chain of more than `offset` entries has a due entry for that offset (R47). -/
theorem dueEntry_exists {q : List Sample} {n : Half} {offset : Nat} (hq : q.IsChain Sample.Precedes)
    (hn : newestIndex q = some n) (ho : offset < q.length) :
    ∃ e ∈ q, e.index = n - BitVec.ofNat 16 offset ∧ dueEntry q offset = some e := by
  have hlen : (q.rtake (offset + 1)).length = offset + 1 := by simp [List.rtake]; omega
  have hsuffix : q.rtake (offset + 1) <:+ q := List.drop_suffix _ _
  obtain ⟨a, r, har⟩ : ∃ a r, q.rtake (offset + 1) = a :: r := List.exists_cons_of_length_eq_add_one hlen
  have hr : r.length = offset := by simpa [har] using hlen
  have ha : a.index = n - BitVec.ofNat 16 offset := by
    have hlast := newestIndex_cons (har ▸ hq.suffix hsuffix)
    rw [← har, newestIndex_of_suffix hsuffix (by simp [har]), hn, hr] at hlast
    rw [Option.some.inj hlast, BitVec.add_sub_cancel]
  have hmem : a ∈ q := hsuffix.mem (by simp [har])
  obtain ⟨e, he⟩ : ∃ e, dueEntry q offset = some e := by
    simp only [dueEntry, hn, Option.bind_some, ← Option.isSome_iff_exists, List.find?_isSome]
    exact ⟨a, hmem, by simp [ha]⟩
  have hfind : q.find? (fun e => e.index == n - BitVec.ofNat 16 offset) = some e := by
    simpa [dueEntry, hn] using he
  exact ⟨e, List.mem_of_find?_eq_some hfind, by simpa using List.find?_some hfind, he⟩

end Sys2Proof.Machine
end

section
/-! PROOFS. Every step keeps the path queue: each command by what it does to the tracker. -/

namespace Sys2Proof.Machine

variable {s t : State}

/-! ### What an arrival does to the tracker -/

theorem clampInt_bounds {lo hi : Int} (h : lo ≤ hi) (x : Int) : lo ≤ clampInt lo hi x ∧ clampInt lo hi x ≤ hi := by
  unfold clampInt
  split
  · omega
  · split <;> omega

@[simp] theorem State.pathGrows_queue (s : State) (q : List Sample) :
    (s.pathGrows q).tracker.queue = prune s.greaterOffset q ∧ (s.pathGrows q).tracker.rejectionRun = 0 := by
  simp only [State.pathGrows]
  split <;> simp

/-- An arrival alone on an empty queue (R43). -/
theorem State.traceArrival_of_empty (h : s.tracker.queue = []) (i : Half) (kappa : Int) :
    s.traceArrival i kappa = s.pathGrows [⟨i, kappa, false⟩] := by
  simp [State.traceArrival, h]

section
variable {tail : Sample} (ht : s.tracker.queue.getLast? = some tail) {i : Half}
include ht

theorem State.traceArrival_of_next (hg : gapOf i tail.index = 1) (kappa : Int) :
    s.traceArrival i kappa = s.pathGrows (pushSample s.tracker.queue ⟨i, kappa, false⟩) := by
  simp [State.traceArrival, ht, hg]

theorem State.traceArrival_of_gap (h2 : 2 ≤ gapOf i tail.index) (h8 : gapOf i tail.index ≤ 8) (kappa : Int) :
    s.traceArrival i kappa = State.pathGrows
      { s with tracker := { s.tracker with filled := bumpBy ((gapOf i tail.index).toNat - 1) s.tracker.filled } }
      (pushSample (fillGap s.tracker.queue tail.index tail.kappa ((gapOf i tail.index).toNat - 1)) ⟨i, kappa, false⟩) := by
  simp only [State.traceArrival, ht]
  rw [if_neg (by omega), if_neg (by omega), if_neg (by omega)]

theorem State.traceArrival_of_break (h8 : 8 < gapOf i tail.index) (kappa : Int) :
    s.traceArrival i kappa = s.breakPath i kappa 0 := by
  simp only [State.traceArrival, ht]
  rw [if_neg (by omega), if_pos h8]

theorem State.traceArrival_of_older (h0 : gapOf i tail.index ≤ 0) (kappa : Int) :
    s.traceArrival i kappa = s.olderArrival i kappa := by
  simp only [State.traceArrival, ht]
  rw [if_neg (by omega), if_neg (by omega), if_pos h0]

end

/-! ### The rule through the tracker's operations -/

theorem Tracker.PathOk.congr {a b : Tracker} (h : a.PathOk) (hq : b.queue = a.queue)
    (hr : b.rejectionRun = a.rejectionRun) : b.PathOk := by
  rw [Tracker.pathOk_iff, hq, hr]
  exact a.pathOk_iff.1 h

/-- A path that grows is pruned to a path queue, with no run (R47). -/
theorem State.pathGrows_pathOk {q : List Sample} (h : PathQueue q) : (s.pathGrows q).tracker.PathOk := by
  obtain ⟨hq, hr⟩ := s.pathGrows_queue q
  rw [Tracker.pathOk_iff, hq, hr]
  exact ⟨h.of_suffix (prune_suffix _ _), by omega⟩

theorem State.jointCleared_tracker (s : State) : s.jointCleared.tracker = s.tracker := by simp

theorem State.breakPath_tracker (s : State) (i : Half) (kappa : Int) (q : Nat) :
    (s.breakPath i kappa q).tracker =
      { s.tracker with queue := [⟨i, kappa, false⟩], rejectionRun := 0, broken := true } :=
  State.jointCleared_tracker _

section
variable {kappa : Int} (hk : -1000 ≤ kappa ∧ kappa ≤ 1000)
include hk

theorem State.breakPath_pathOk (i : Half) (q : Nat) : (s.breakPath i kappa q).tracker.PathOk := by
  rw [Tracker.pathOk_iff, State.breakPath_tracker]
  exact ⟨.singleton hk, by simp⟩

/-- A run of eight is a break (R46). -/
theorem State.olderArrival_pathOk (h : s.tracker.PathOk) (i : Half) : (s.olderArrival i kappa).tracker.PathOk := by
  unfold State.olderArrival
  split
  · next hrun => exact ⟨h.depth, h.consecutive, h.curvature, by simp only; omega⟩
  · exact State.breakPath_pathOk hk i 1

theorem State.traceArrival_pathOk (h : s.tracker.PathOk) (i : Half) : (s.traceArrival i kappa).tracker.PathOk := by
  obtain ⟨hq, -⟩ := s.tracker.pathOk_iff.1 h
  rcases ht : s.tracker.queue.getLast? with - | tail
  · rw [State.traceArrival_of_empty (by simpa using ht)]
    exact State.pathGrows_pathOk (.singleton hk)
  have hgrown (g : Nat) (hg : 1 ≤ g) (hgap : gapOf i tail.index = g) :
      PathQueue (pushSample (fillGap s.tracker.queue tail.index tail.kappa (g - 1)) ⟨i, kappa, false⟩) := by
    rw [push_fillGap_eq hq.depth]
    exact hq.grown (added_chain hq.consecutive ht hg hgap) (added_curvature hq ht hk)
  rcases Int.lt_or_le 8 (gapOf i tail.index) with h8 | h8
  · rw [State.traceArrival_of_break ht h8]
    exact State.breakPath_pathOk hk i 0
  rcases Int.lt_or_le 0 (gapOf i tail.index) with h1 | h0
  · rcases Int.lt_or_le 1 (gapOf i tail.index) with h2 | h1'
    · rw [State.traceArrival_of_gap ht h2 h8]
      exact State.pathGrows_pathOk (hgrown _ (by omega) (by omega))
    · rw [State.traceArrival_of_next ht (by omega)]
      exact State.pathGrows_pathOk (hgrown 1 le_rfl (by omega))
  · rw [State.traceArrival_of_older ht h0]
    exact State.olderArrival_pathOk hk h i

end

theorem State.takeTrace_pathOk (h : s.tracker.PathOk) (p : List Byte) : (s.takeTrace p).tracker.PathOk := by
  unfold State.takeTrace
  split
  · exact h
  split
  · exact h.congr rfl rfl
  split
  · exact h.congr rfl rfl
  · exact State.traceArrival_pathOk (clampInt_bounds (by decide) _) h _

/-- The queue is emptied, or left as it is (R48, R49). -/
theorem State.clearPath_pathOk (h : s.tracker.PathOk) : s.clearPath.tracker.PathOk := by
  unfold State.clearPath
  split
  · rw [State.jointCleared_tracker]
    exact (Tracker.pathOk_iff _).2 ⟨.nil, Nat.zero_le _⟩
  · exact h

theorem State.trackerPeriod_pathOk (h : s.tracker.PathOk) : s.trackerPeriod.tracker.PathOk := by
  unfold State.trackerPeriod
  split
  · exact State.clearPath_pathOk h
  · exact h

theorem State.applyReverse_pathOk (h : s.tracker.PathOk) : s.applyReverse.tracker.PathOk := by
  unfold State.applyReverse
  split
  · refine State.clearPath_pathOk ?_
    split
    · exact h.congr rfl rfl
    · exact h
  · exact h

theorem State.acceptDemand_pathOk (h : s.tracker.PathOk) (v : DemandValues) : (s.acceptDemand v).tracker.PathOk := by
  simpa [State.acceptDemand] using State.applyReverse_pathOk (s := s.freshenDemand v) h

@[simp] theorem State.completeStep_queue (s : State) (sta : Microvolt) :
    (s.completeStep sta).tracker.queue = s.tracker.queue ∧
    (s.completeStep sta).tracker.rejectionRun = s.tracker.rejectionRun := by
  unfold State.completeStep
  split <;> simp

/-- A pulse touches the trace generator alone. -/
@[simp] theorem State.tracePulse_queue (s : State) (sta : Microvolt) :
    (s.tracePulse sta).tracker.queue = s.tracker.queue ∧
    (s.tracePulse sta).tracker.rejectionRun = s.tracker.rejectionRun := by
  unfold State.tracePulse
  (repeat' split) <;> simp

theorem State.tracePulse_pathOk (h : s.tracker.PathOk) (sta : Microvolt) : (s.tracePulse sta).tracker.PathOk :=
  have ⟨hq, hr⟩ := s.tracePulse_queue sta
  h.congr hq hr

/-! ### The rule through reception -/

/-- Past screening a DEMAND and a TRACE alone reach the tracker (R20). -/
theorem State.route_pathOk (h : s.tracker.PathOk) (k : Kind) (a : Address) (p : List Byte) :
    (s.route k a p).tracker.PathOk := by
  cases k with
  | state | alert | serviceReq | serviceReply => simpa [State.route] using h
  | demand =>
    simp only [State.route]
    split
    · unfold State.takeDemand
      split
      · exact h
      · exact State.acceptDemand_pathOk h _
    · exact h
  | trace =>
    simp only [State.route]
    split
    · exact State.takeTrace_pathOk h p
    · exact h

/-- What the link, the peer view's figures and a duplicate number do not matter to, and routing keeps, is kept by
reception (R20, R152). -/
theorem State.receive_keeps {P : State → Prop} (hlink : ∀ u l, P u → P { u with link := l })
    (hstranger : ∀ u, P u → P u.countStranger) (hdup : ∀ u, P u → P u.duplicateHeard)
    (hroute : ∀ u k a p, P u → P (u.route k a p)) (h : P s) (head : RawHead) (p : List Byte) : P (s.receive head p) := by
  have hscreen (u : State) (hu : P u) (k : Kind) (a : Address) : P (u.screen k a p) := by
    unfold State.screen
    split
    · exact hdup u hu
    split
    · exact hstranger u hu
    split
    · exact hu
    · exact hroute u k a p hu
  have haccept (u : State) (hu : P u) (k : Kind) (a : Address) : P (u.accept k a p) := by
    unfold State.accept
    split
    · exact hscreen _ (hlink u _ hu) k a
    · exact hu
  have hack : P s.acknowledge := hlink s _ h
  unfold State.receive
  split
  · split
    · split
      · exact haccept _ hack _ _
      · exact hlink _ _ hack
    · exact hlink _ _ hack
  · exact hlink _ _ h

theorem State.receive_pathOk (h : s.tracker.PathOk) (head : RawHead) (p : List Byte) :
    (s.receive head p).tracker.PathOk :=
  State.receive_keeps (P := fun u => u.tracker.PathOk) (fun _ _ hu => hu) (fun _ hu => hu) (fun _ hu => by simpa using hu)
    (fun _ k a p hu => State.route_pathOk hu k a p) h head p

/-! ### The commands -/

theorem pathOk_of_next {u : State} (h : (.next u : Host.Outcome State Fault Refusal) = .next t)
    (hu : u.tracker.PathOk) : t.tracker.PathOk :=
  holds_of_next (P := fun v => v.tracker.PathOk) h hu

/-- A guarded command keeps the rule when its effect does. -/
theorem Tracker.PathOk.ite {c : Bool} (h : s.tracker.PathOk) (ht : t.tracker.PathOk) :
    (if c then t else s).tracker.PathOk := by
  split
  · exact ht
  · exact h

theorem Tracker.PathOk.empty : ({} : Tracker).PathOk := (Tracker.pathOk_iff _).2 ⟨.nil, Nat.zero_le _⟩

/-- Every command keeps the path queue's rule: the resets empty it, the tracker's own commands, the frames and the DEMAND
computation keep it, and no other command touches it. -/
theorem exec_pathOk (c : Instr) (s t : State) (hs : s.tracker.PathOk) (h : exec c s = .next t) : t.tracker.PathOk := by
  cases c with
  | powerOnReset => exact pathOk_of_next h .empty
  | serviceRestart => exact pathOk_of_next h (hs.ite .empty)
  | stateFrame | demandFrame | alertFrame | traceFrame | serviceReplyFrame | frameRejected | snapshot | readFaults
  | clearFaults | calibrateHeight | coilSweep | restart | unknownRequest =>
    exact pathOk_of_next h (State.receive_pathOk hs _ _)
  | rejectionRunBreak i kappa =>
    exact pathOk_of_next h (hs.ite (State.olderArrival_pathOk (clampInt_bounds (by decide) kappa) hs i))
  | trackerPeriod => exact pathOk_of_next h (State.trackerPeriod_pathOk hs)
  | wheelPulse side sta => exact pathOk_of_next h (State.tracePulse_pathOk (s := s.putWheel _ _) hs sta)
  | pathStep sta => exact pathOk_of_next h (hs.ite (State.tracePulse_pathOk hs sta))
  | demandComputation w =>
    refine pathOk_of_next h (hs.ite (State.acceptDemand_pathOk ?_ _))
    simpa using hs
  | ladderPeriod | steeringPeriod | jointPeriod | brakePeriod | slipPeriod | levellingPeriod | entrancePeriod =>
    exact pathOk_of_next h (by simpa using hs)
  | alertExpiry | linkIdle | statePromotion | frameCheckError | frameFormatError => exact pathOk_of_next h hs
  | lockTimeout | closeTimeout | reopeningDone =>
    refine pathOk_of_next h ?_
    split
    · exact hs.ite (by simpa using hs)
    · exact hs
  | sweepStep =>
    refine pathOk_of_next h (hs.ite ?_)
    split <;> simpa using hs
  | _ => exact pathOk_of_next h (hs.ite (by simpa using hs))

/-- Settles O55: the path queue by the commands that touch it; a millisecond leaves the tracker alone. -/
theorem everyStepKeepsThePathQueue : Obligations.EveryStepKeepsThePathQueue := fun _ _ =>
  step_keeps (P := fun u => u.tracker.PathOk) (fun _ _ hs => hs) (fun _ hs => hs) exec_pathOk

end Sys2Proof.Machine
end

section
/-! PROOFS. Service requests as the sweep and the steering block see them: a request starts a coil sweep, or leaves the
drives as they are. -/

namespace Sys2Proof.Machine

variable {s t : State}

/-- Start-up, steering, brakes and valves are as they were. -/
structure State.DrivesStay (s t : State) : Prop where
  startUp : t.startUp = s.startUp
  steering : t.steering = s.steering
  brake : t.brake = s.brake
  valves : t.valvesClosed = s.valvesClosed

theorem State.DrivesStay.of_blocks (hu : t.startUp = s.startUp) (hs : t.steering = s.steering)
    (hb : t.brake = s.brake) (hl : t.levelling = s.levelling) : s.DrivesStay t :=
  ⟨hu, hs, hb, by simp only [State.valvesClosed, hl]⟩

/-- A sweep has started under its start conditions, whoever asked for it (R167, R177). -/
def State.SweepAsked (s t : State) : Prop :=
  s.sweepMayStart = true ∧ ∃ v : Service, t = State.startSweep { s with service := v }

/-- What a request that has reached the service block can do to the drives. -/
def State.RequestTaken (s t : State) : Prop := s.DrivesStay t ∨ s.SweepAsked t

theorem State.serveCoilSweep_taken (s : State) (n : Fin 8) : s.RequestTaken (s.serveCoilSweep n) := by
  unfold State.serveCoilSweep
  split
  · next hm =>
    obtain ⟨hmay, -⟩ := Bool.and_eq_true_iff.1 hm
    exact .inr ⟨hmay, _, rfl⟩
  · exact .inl (.of_blocks (by simp) (by simp) (by simp) (by simp))

/-- A calibration sets the trims alone (R176). -/
theorem State.serveCalibrate_stay (s : State) (n : Fin 8) : s.DrivesStay (s.serveCalibrate n) := by
  refine ⟨by simp, by simp, by simp, ?_⟩
  unfold State.serveCalibrate
  split
  · simp [State.valvesClosed]
  · split
    · simp [State.valvesClosed, State.setTrims]
    · simp [State.valvesClosed]

theorem State.carry_taken (s : State) (n : Fin 8) (r : Request) (args : List Byte) :
    s.RequestTaken (s.carry n r args) := by
  cases r with
  | coilSweep => exact s.serveCoilSweep_taken n
  | calibrateHeight => exact .inl (s.serveCalibrate_stay n)
  | snapshot =>
    simp only [State.carry]
    split
    · exact .inl (.of_blocks (by simp) (by simp) (by simp) (by simp))
    · exact .inl (.of_blocks rfl rfl rfl rfl)
  | readFaults | clearFaults | restart =>
    exact .inl (.of_blocks (by simp [State.carry]) (by simp [State.carry]) (by simp [State.carry]) (by simp [State.carry]))

theorem State.servePayload_taken (s : State) (n : Fin 8) (p : List Byte) : s.RequestTaken (s.servePayload n p) := by
  have hanswer (c : Nat) (r : Result) (d : List Byte) : s.RequestTaken (s.answer n c r d) :=
    .inl (.of_blocks (by simp) (by simp) (by simp) (by simp))
  unfold State.servePayload State.serve
  split
  · exact hanswer _ _ _
  · split
    · split
      · exact hanswer _ _ _
      · split
        · exact hanswer _ _ _
        · exact s.carry_taken n _ _
    · exact .inl (.of_blocks (by simp) (by simp) (by simp) (by simp))

theorem State.routeRequest_taken (s : State) (a : Address) (p : List Byte) : s.RequestTaken (s.routeRequest a p) := by
  unfold State.routeRequest State.takeRequest
  split
  · exact .inl (.of_blocks rfl rfl rfl rfl)
  · split
    · exact .inl (.of_blocks rfl rfl rfl rfl)
    · split
      · exact .inl (.of_blocks rfl rfl rfl rfl)
      · exact s.servePayload_taken _ p

end Sys2Proof.Machine
end

section
/-! PROOFS. Every step keeps the steer command and the path steer angle within max lock. -/

namespace Sys2Proof.Machine

variable {s t : State}

/-! ### The figures -/

theorem pathAngle_natAbs_le (kappa : Int) (leverMm maxLock : Nat) : (pathAngle kappa leverMm maxLock).natAbs ≤ maxLock := by
  obtain ⟨hlo, hhi⟩ := clampInt_bounds (show -(maxLock : Int) ≤ maxLock by omega)
    (roundHalfAway (kappa * leverMm * 573) 1000000)
  simp only [pathAngle]
  omega

theorem fadeFactor_le (v fadeStart fadeEnd : Nat) : fadeFactor v fadeStart fadeEnd ≤ 1000 := by
  have hhi := (clampInt_bounds (show (0 : Int) ≤ 1000 by decide)
    ((((fadeEnd : Int) - v) * 1000).tdiv ((fadeEnd : Int) - fadeStart))).2
  simp only [fadeFactor]
  omega

/-- The faded angle is no greater than the angle (R58). -/
theorem natAbs_faded_le (dp : Int) {fade : Nat} (h : fade ≤ 1000) : ((dp * fade).tdiv 1000).natAbs ≤ dp.natAbs := by
  rw [Int.natAbs_tdiv, Int.natAbs_mul, Int.natAbs_natCast]
  exact Nat.div_le_of_le_mul (by rw [Nat.mul_comm]; exact Nat.mul_le_mul_right _ h)

/-- The command moves between where it was and the target, and never past it (R59). -/
theorem natAbs_rampTo_le {command target : Int} {rate bound : Nat} (hc : command.natAbs ≤ bound)
    (ht : target.natAbs ≤ bound) : (rampTo command target rate).natAbs ≤ bound := by
  unfold rampTo
  split
  · exact ht
  · split <;> omega

/-! ### Stage 1 of the steering period -/

/-- The lock valve coil is looked at first (R55, log entry 16). -/
def State.coilChecked (s : State) : State :=
  if s.coilFailed 9 && s.steering.state != .pinned then s.enterPinned .coil else s

@[simp] theorem State.coilChecked_startUp (s : State) : s.coilChecked.startUp = s.startUp := by
  unfold State.coilChecked
  split <;> simp

/-- A reading ends the sensor's fault. -/
theorem State.steerStage1_of_some {v : Microvolt} {m : Int} (h : steerReading v = some m) (s : State) :
    s.steerStage1 v = State.finish
      { s.coilChecked with steering := { s.coilChecked.steering with measured := some m } } .steerTrack 1 := by
  simp only [State.steerStage1, h]
  rfl

/-- The angle out of range: the fault is raised. -/
def State.angleLost (s : State) : State :=
  State.raise { s.coilChecked with steering := { s.coilChecked.steering with measured := none } } .steerTrack 1

/-- An axle that is not PINNED yet is pinned by the angle. -/
theorem State.steerStage1_of_none {v : Microvolt} (h : steerReading v = none) (s : State) :
    s.steerStage1 v = if s.coilChecked.steering.state != .pinned then s.angleLost.enterPinned .sensor else s.angleLost := by
  simp only [State.steerStage1, h]
  rfl

/-! ### The rule through the operations -/

/-- What the rule speaks of is as it was. -/
theorem State.SteerOk.congr (h : s.SteerOk) (hc : t.steering.command = s.steering.command)
    (hd : t.steering.dp = s.steering.dp) (hi : t.startUp.config = s.startUp.config)
    (hl : t.startUp.status = s.startUp.status) : t.SteerOk where
  command := by rw [hc, State.cfg_congr hi]; exact h.command
  angle := by rw [hd, State.cfg_congr hi]; exact h.angle
  unloaded hf := by
    rw [hc, hd]
    exact h.unloaded ((State.loaded_congr hl).symm.trans hf)

/-- Steering and start-up are as they were. -/
theorem State.SteerOk.of_blocks (h : s.SteerOk) (hs : t.steering = s.steering) (hu : t.startUp = s.startUp) : t.SteerOk :=
  h.congr (by rw [hs]) (by rw [hs]) (by rw [hu]) (by rw [hu])

/-- At command and angle 0 the rule holds on any configuration. -/
theorem State.SteerOk.of_centred (hc : s.steering.command = 0) (hd : s.steering.dp = 0) : s.SteerOk :=
  ⟨by simp [hc], by simp [hd], fun _ => ⟨hc, hd⟩⟩

/-- A new angle within max lock, on a held configuration. -/
theorem State.SteerOk.of_angle (h : s.SteerOk) (hl : s.loaded = true) (hc : t.steering.command = s.steering.command)
    (hd : t.steering.dp.natAbs ≤ s.cfg.maxLock) (hu : t.startUp = s.startUp) : t.SteerOk := by
  have hcfg : t.cfg = s.cfg := State.cfg_congr (by rw [hu])
  have hload : t.loaded = true := (State.loaded_congr (by rw [hu])).trans hl
  exact ⟨by rw [hc, hcfg]; exact h.command, by rw [hcfg]; exact hd, fun hf => by simp [hload] at hf⟩

theorem State.loaded_of_hasSteering (h : s.hasSteering = true) : s.loaded = true := (Bool.and_eq_true_iff.1 h).1

section
variable (h : s.SteerOk) (hl : s.loaded = true)
include h hl

theorem State.enterPinned_steerOk (cause : PinCause) : (s.enterPinned cause).SteerOk :=
  h.of_angle hl (by simp [State.enterPinned]) (by simp [State.enterPinned]) (by simp)

theorem State.computeDp_steerOk : s.computeDp.SteerOk := by
  unfold State.computeDp
  split
  · split
    · exact h.of_angle hl rfl (pathAngle_natAbs_le _ _ _) rfl
    · exact h
  · exact h

theorem State.coilChecked_steerOk : s.coilChecked.SteerOk := by
  unfold State.coilChecked
  split
  · exact State.enterPinned_steerOk h hl .coil
  · exact h

theorem State.steerStage1_steerOk (v : Microvolt) : (s.steerStage1 v).SteerOk := by
  have hcoil := State.coilChecked_steerOk h hl
  have hlost : s.angleLost.SteerOk := hcoil.congr rfl rfl rfl rfl
  have hload : s.angleLost.loaded = true := (State.loaded_congr (by simp [State.angleLost])).trans hl
  rcases hr : steerReading v with - | m
  · rw [State.steerStage1_of_none hr]
    split
    · exact State.enterPinned_steerOk hlost hload .sensor
    · exact hlost
  · rw [State.steerStage1_of_some hr]
    exact hcoil.congr rfl rfl rfl rfl

theorem State.steerStage2_steerOk : s.steerStage2.SteerOk := by
  unfold State.steerStage2
  split
  · split
    · exact State.computeDp_steerOk (h.congr rfl rfl rfl rfl) hl
    · exact h
  · split
    · exact h.of_angle hl rfl (by simp) rfl
    · exact h
  · exact h

/-- Stages 3 and 4: the target is the faded angle or 0, and the command goes toward it. -/
theorem State.steerStage34_steerOk : s.steerStage3.steerStage4.SteerOk where
  command := by
    refine natAbs_rampTo_le h.command ?_
    simp only [State.steerStage3]
    split
    · exact (natAbs_faded_le _ (fadeFactor_le _ _ _)).trans h.angle
    · simp
  angle := h.angle
  unloaded hf := by
    have hf' : s.loaded = false := hf
    simp [hl] at hf'

theorem State.countTracking_steerOk : s.countTracking.SteerOk := by
  unfold State.countTracking
  split
  · split
    · exact h.congr rfl rfl rfl rfl
    · exact State.enterPinned_steerOk (s := s.raise .steerTrack 0) (h.congr rfl rfl rfl rfl) hl .tracking
  · exact h.congr rfl rfl rfl rfl

theorem State.steerStage5_steerOk : s.steerStage5.SteerOk := by
  unfold State.steerStage5
  split
  · exact h
  · split
    · exact h.congr rfl rfl rfl rfl
    · exact State.countTracking_steerOk h hl

end

theorem State.steerOutputs_steerOk (h : s.SteerOk) : s.steerOutputs.SteerOk := h.congr rfl rfl rfl rfl

theorem State.steeringPeriod_steerOk (h : s.SteerOk) (v : Microvolt) : (s.steeringPeriod v).SteerOk := by
  unfold State.steeringPeriod
  split
  · next hs =>
    have hl := State.loaded_of_hasSteering hs
    have hkeep {u : State} (hu : u.startUp = s.startUp) : u.loaded = true :=
      (State.loaded_congr (by rw [hu])).trans hl
    have h1 := State.steerStage1_steerOk h hl v
    have h2 := State.steerStage2_steerOk h1 (hkeep (by simp))
    have h4 := State.steerStage34_steerOk h2 (hkeep (by simp))
    exact State.steerOutputs_steerOk (State.steerStage5_steerOk h4 (hkeep (by simp)))
  · exact h

/-- An arrival writes the angle, if anything, of what the steering block holds (R57). -/
theorem State.steerArrival_steering (s : State) :
    s.steerArrival.steering = { s.steering with dp := s.steerArrival.steering.dp } := by
  unfold State.steerArrival State.computeDp
  (repeat' split) <;> rfl

theorem State.steerArrival_steerOk (h : s.SteerOk) : s.steerArrival.SteerOk := by
  unfold State.steerArrival
  split
  · next hf => exact State.computeDp_steerOk h (State.loaded_of_hasSteering (Bool.and_eq_true_iff.1 hf).1)
  · exact h

/-- The path before δp and φe are computed at an arrival that adds to it (R47). -/
def State.pathPruned (s : State) (queue : List Sample) : State :=
  let t := { s with tracker := { s.tracker with queue := prune s.greaterOffset queue, rejectionRun := 0 } }
  if t.pathReady then
    (State.finish { t with tracker := { t.tracker with broken := false } } .traceBroken 0).finish .traceBroken 1
  else t

theorem State.pathGrows_eq (s : State) (q : List Sample) :
    s.pathGrows q = (s.pathPruned q).steerArrival.jointArrival := rfl

@[simp] theorem State.pathPruned_frame (s : State) (q : List Sample) :
    (s.pathPruned q).startUp = s.startUp ∧ (s.pathPruned q).steering = s.steering ∧
    (s.pathPruned q).joint = s.joint ∧ (s.pathPruned q).link = s.link ∧ (s.pathPruned q).service = s.service := by
  simp only [State.pathPruned]
  split <;> simp

theorem State.pathGrows_steerOk (h : s.SteerOk) (q : List Sample) : (s.pathGrows q).SteerOk :=
  have hpruned : (s.pathPruned q).SteerOk := h.of_blocks (by simp) (by simp)
  (State.steerArrival_steerOk hpruned).of_blocks (by simp [State.pathGrows_eq]) (by simp [State.pathGrows_eq])

/-- An arrival adds to the path, or leaves the steering block alone. -/
theorem State.takeTrace_cases (s : State) (p : List Byte) :
    (∃ r q, s.takeTrace p = State.pathGrows { s with tracker := r } q) ∨
    ((s.takeTrace p).steering = s.steering) := by
  unfold State.takeTrace State.traceArrival
  split
  · exact .inr rfl
  split
  · exact .inr rfl
  split
  · exact .inr rfl
  split
  · exact .inl ⟨_, _, rfl⟩
  simp only
  split
  · exact .inl ⟨_, _, rfl⟩
  split
  · exact .inr (by simp)
  split
  · exact .inr (by simp)
  · exact .inl ⟨_, _, rfl⟩

theorem State.takeTrace_steering (s : State) (p : List Byte) :
    (s.takeTrace p).steering = { s.steering with dp := (s.takeTrace p).steering.dp } := by
  rcases s.takeTrace_cases p with ⟨r, q, h⟩ | h
  · have hs := (State.pathPruned { s with tracker := r } q).steerArrival_steering
    rw [h, State.pathGrows_eq]
    simpa using hs
  · rw [h]

theorem State.takeTrace_steerOk (h : s.SteerOk) (p : List Byte) : (s.takeTrace p).SteerOk := by
  rcases s.takeTrace_cases p with ⟨r, q, hq⟩ | hs
  · rw [hq]
    exact State.pathGrows_steerOk (by exact h.congr rfl rfl rfl rfl) q
  · exact h.of_blocks hs (by simp)

theorem State.startSweep_command (s : State) : s.startSweep.steering.command = s.steering.command ∧
    s.startSweep.steering.dp = s.steering.dp := by
  unfold State.startSweep State.sweepFrom
  split <;> simp [State.handOver, State.beginCoil]

/-- A sweep that starts takes the drives, and leaves the command and the angle. -/
theorem State.SteerOk.startSweep (h : s.SteerOk) : s.startSweep.SteerOk := by
  obtain ⟨hc, hd⟩ := s.startSweep_command
  exact h.congr hc hd (by simp) (by simp)

theorem State.RequestTaken.steerOk (hr : s.RequestTaken t) (h : s.SteerOk) : t.SteerOk := by
  rcases hr with hr | ⟨-, v, rfl⟩
  · exact h.of_blocks hr.steering hr.startUp
  · exact State.SteerOk.startSweep (s := { s with service := v }) (h.congr rfl rfl rfl rfl)

theorem State.route_steerOk (h : s.SteerOk) (k : Kind) (a : Address) (p : List Byte) : (s.route k a p).SteerOk := by
  cases k with
  | state | alert | serviceReply => exact h.of_blocks (by simp [State.route]) (by simp [State.route])
  | serviceReq => exact (s.routeRequest_taken a p).steerOk h
  | demand =>
    simp only [State.route]
    split
    · exact h.congr (by simp) (by simp) (by simp) (by simp)
    · exact h.congr rfl rfl rfl rfl
  | trace =>
    simp only [State.route]
    split
    · exact State.takeTrace_steerOk h p
    · exact h.congr rfl rfl rfl rfl

theorem State.receive_steerOk (h : s.SteerOk) (head : RawHead) (p : List Byte) : (s.receive head p).SteerOk :=
  State.receive_keeps (P := State.SteerOk) (fun _ _ hu => hu.congr rfl rfl rfl rfl) (fun _ hu => hu.congr rfl rfl rfl rfl)
    (fun _ hu => hu.of_blocks (by simp) (by simp)) (fun _ k a p hu => State.route_steerOk hu k a p) h head p

/-! ### The commands -/

/-- The image read finds the command and the angle at 0 (R51), so that any max lock bounds them. -/
theorem State.configure_steerOk (h : s.SteerOk) (hl : s.loaded = false) (image : List Byte) :
    (s.configure image).SteerOk := by
  obtain ⟨hc, hd⟩ := h.unloaded hl
  exact .of_centred (by simpa using hc) (by simpa using hd)

theorem State.SteerOk.ite {c : Bool} (h : s.SteerOk) (ht : c = true → t.SteerOk) : (if c then t else s).SteerOk := by
  split
  · next hc => exact ht hc
  · exact h

/-- The commands that can write the command or the angle: the resets, the image read, the frames and the steering block's
own. -/
def steeringCommand : Instr → Bool
  | .powerOnReset _ | .serviceRestart _ | .configurationImageRead _ | .stateFrame _ _ _ | .demandFrame _ _
  | .alertFrame _ _ | .traceFrame _ _ | .serviceReplyFrame _ _ | .frameRejected _ _ | .steeringPeriod _ | .trackingFault
  | .snapshot _ _ | .readFaults _ _ | .clearFaults _ _ | .calibrateHeight _ _ | .coilSweep _ _ | .restart _ _
  | .unknownRequest _ _ => true
  | _ => false

/-- The steer command and the path steer angle are as they were. -/
def State.SteersAs (s t : State) : Prop :=
  t.steering.command = s.steering.command ∧ t.steering.dp = s.steering.dp

theorem State.SteersAs.of_steering (h : t.steering = s.steering) : s.SteersAs t := ⟨by rw [h], by rw [h]⟩

theorem State.SteersAs.ite {c : Bool} (h : s.SteersAs t) : s.SteersAs (if c then t else s) := by
  split
  · exact h
  · exact ⟨rfl, rfl⟩

theorem State.sweepOrSkip_steersAs (s : State) : s.SteersAs s.sweepOrSkip := by
  unfold State.sweepOrSkip
  split
  · exact State.startSweep_command _
  · exact ⟨rfl, rfl⟩

/-- Every other command leaves both. -/
theorem exec_steersAs {c : Instr} (hc : steeringCommand c = false) (h : exec c s = .next t) : s.SteersAs t := by
  cases c with
  | powerOnReset | serviceRestart | configurationImageRead | stateFrame | demandFrame | alertFrame | traceFrame
  | serviceReplyFrame | frameRejected | steeringPeriod | trackingFault | snapshot | readFaults | clearFaults
  | calibrateHeight | coilSweep | restart | unknownRequest => exact nomatch hc
  | sweepOrSkip => exact holds_of_next h s.sweepOrSkip_steersAs.ite
  | steerPinnedRepeat => exact holds_of_next h (.ite ⟨by simp, by simp⟩)
  | ladderPeriod | trackerPeriod | jointPeriod | brakePeriod | slipPeriod | levellingPeriod | entrancePeriod | wheelPulse =>
    exact holds_of_next h (.of_steering (by simp))
  | alertExpiry | linkIdle | statePromotion | frameCheckError | frameFormatError => exact holds_of_next h ⟨rfl, rfl⟩
  | lockTimeout | closeTimeout | reopeningDone =>
    refine holds_of_next h ?_
    split
    · exact .ite (.of_steering (by simp))
    · exact ⟨rfl, rfl⟩
  | sweepStep =>
    refine holds_of_next h (.ite (.of_steering ?_))
    split <;> simp
  | _ => exact holds_of_next h (.ite (.of_steering (by simp)))

/-- Every command keeps the command and the angle within max lock: the steering block's by its figures, the others by
what they leave. -/
theorem exec_steerOk (c : Instr) (s t : State) (hs : s.SteerOk) (h : exec c s = .next t) : t.SteerOk := by
  by_cases hc : steeringCommand c = true
  · cases c with
    | powerOnReset => exact holds_of_next h (.of_centred rfl rfl)
    | serviceRestart => exact holds_of_next h (hs.ite fun _ => .of_centred rfl rfl)
    | configurationImageRead image =>
      refine holds_of_next h (hs.ite fun hn => State.configure_steerOk hs ?_ image)
      simpa [State.loaded] using hn
    | steeringPeriod sta => exact holds_of_next h (State.steeringPeriod_steerOk hs sta)
    | trackingFault =>
      refine holds_of_next h (hs.ite fun hd => State.steerOutputs_steerOk (State.countTracking_steerOk hs ?_))
      refine State.loaded_of_hasSteering ?_
      simp_all [State.trackingDue]
    | stateFrame | demandFrame | alertFrame | traceFrame | serviceReplyFrame | frameRejected | snapshot | readFaults
    | clearFaults | calibrateHeight | coilSweep | restart | unknownRequest =>
      exact holds_of_next h (State.receive_steerOk hs _ _)
    | _ => exact nomatch hc
  · obtain ⟨hcommand, hangle⟩ := exec_steersAs (by simpa using hc) h
    by_cases hst : standingCommand c = true
    · cases c with
      | ladderPeriod =>
        exact holds_of_next h (hs.congr (by simp) (by simp) (by simp [State.ladderPeriod]) (by simp [State.ladderPeriod]))
      | powerOnReset | serviceRestart | configurationImageRead => exact absurd rfl hc
      | _ => exact nomatch hst
    · have hstands := exec_standsAs (by simpa using hst) h
      exact hs.congr hcommand hangle hstands.config hstands.status

/-- Settles O57: a millisecond runs the alert timer alone. -/
theorem everyStepKeepsTheCommandWithinLock : Obligations.EveryStepKeepsTheCommandWithinLock := fun _ _ =>
  step_keeps (fun _ _ hs => hs.congr rfl rfl rfl rfl) (fun _ hs => hs.congr rfl rfl rfl rfl) exec_steerOk

end Sys2Proof.Machine
end

section
/-! PROOFS. Every step keeps a RUNNING sweep within its conditions, with the blocks' drives off. -/

namespace Sys2Proof.Machine

variable {s t u : State}

/-! ### The rule -/

/-- The brake block drives no modulator, both valves are CLOSED, the lock valve and the bridge are off and the tracking
counter is 0. -/
structure State.DrivesOff (s : State) : Prop where
  brakes : s.brake.driving = false
  valves : s.valvesClosed = true
  lock : s.steering.lockOn = false
  bridge : s.steering.actP = false ∧ s.steering.actN = false
  tracking : s.steering.tracking = 0

theorem State.sweepOk_iff (s : State) : s.SweepOk ↔
    (s.sweeping = true → s.sweepMayRun = true ∧ s.startUp.status = .good ∧ s.DrivesOff) := by
  refine ⟨fun h hr => ⟨h.conditions hr, h.config hr, ?_⟩, fun h => ?_⟩
  · obtain ⟨hlock, hp, hn, ht⟩ := h.steering hr
    exact ⟨h.brakes hr, h.valves hr, hlock, ⟨hp, hn⟩, ht⟩
  · exact ⟨fun hr => (h hr).1, fun hr => (h hr).2.1, fun hr => (h hr).2.2.brakes, fun hr => (h hr).2.2.valves, fun hr =>
      have hd := (h hr).2.2
      ⟨hd.lock, hd.bridge.1, hd.bridge.2, hd.tracking⟩⟩

theorem State.SweepOk.of_not_sweeping (h : s.sweeping = false) : s.SweepOk :=
  s.sweepOk_iff.2 fun hr => by simp [h] at hr

theorem State.sweeping_congr (h : t.startUp = s.startUp) : t.sweeping = s.sweeping := by
  simp only [State.sweeping, h]

@[simp] theorem State.endSweep_sweeping (s : State) (how : SweepState) :
    (s.endSweep how).sweeping = (how == .running) := by
  simp only [State.sweeping, State.endSweep_startUp]

/-! ### The conditions of a sweep -/

/-- What the conditions look at is as it was. -/
theorem State.sweepMayRun_congr (hm : t.ladder.mode = s.ladder.mode) (hq : t.ladder.qualifier = s.ladder.qualifier)
    (hf : t.peerView.demand.freshness = s.peerView.demand.freshness)
    (hv : t.peerView.demand.values = s.peerView.demand.values) (hc : t.startUp.config = s.startUp.config)
    (hi : t.interlock.records = s.interlock.records) : t.sweepMayRun = s.sweepMayRun := by
  simp only [State.sweepMayRun, State.demand, State.demandFreshness, State.allLocked, State.everyEntrance, State.cfg,
    hm, hq, hf, hv, hc, hi]

/-- The blocks that the conditions look at are as they were. -/
theorem State.sweepMayRun_of_blocks (hl : t.ladder = s.ladder) (hp : t.peerView = s.peerView)
    (hu : t.startUp.config = s.startUp.config) (hi : t.interlock = s.interlock) : t.sweepMayRun = s.sweepMayRun :=
  State.sweepMayRun_congr (by rw [hl]) (by rw [hl]) (by rw [hp]) (by rw [hp]) hu (by rw [hi])

/-! ### The drives through the updates of their blocks -/

/-- Of the steering block the angle and the alert timer alone may have changed. -/
def State.OutputsStay (s t : State) : Prop := ∃ dp alertTimer, t.steering = { s.steering with dp, alertTimer }

theorem State.OutputsStay.of_steering (h : t.steering = s.steering) : s.OutputsStay t := ⟨_, _, h⟩

theorem State.DrivesOff.congr (h : s.DrivesOff) (hb : t.brake.driving = s.brake.driving) (hs : s.OutputsStay t)
    (hv : t.valvesClosed = s.valvesClosed) :
    t.DrivesOff := by
  obtain ⟨dp, alertTimer, hs⟩ := hs
  exact ⟨hb.trans h.brakes, hv.trans h.valves, by rw [hs]; exact h.lock, by rw [hs]; exact h.bridge,
    by rw [hs]; exact h.tracking⟩

theorem State.DrivesOff.of_blocks (h : s.DrivesOff) (hb : t.brake = s.brake) (hs : t.steering = s.steering)
    (hl : t.levelling = s.levelling) : t.DrivesOff :=
  h.congr (by rw [hb]) (.of_steering hs) (by simp only [State.valvesClosed, hl])

theorem State.handOver_drivesOff (s : State) : s.handOver.DrivesOff := ⟨rfl, rfl, rfl, ⟨rfl, rfl⟩, rfl⟩

/-! ### Levelling leaves closed valves closed while a sweep runs (R115, R117) -/

theorem State.corner_valve (h : s.valvesClosed = true) (side : Side) : (s.corner side).valve = .closed := by
  obtain ⟨hl, hr⟩ := Bool.and_eq_true_iff.1 h
  cases side
  · exact beq_iff_eq.1 hl
  · exact beq_iff_eq.1 hr

theorem State.putCorner_valvesClosed (h : s.valvesClosed = true) (side : Side) {c : Corner} (hc : c.valve = .closed) :
    (s.putCorner side c).valvesClosed = true := by
  obtain ⟨hl, hr⟩ := Bool.and_eq_true_iff.1 h
  cases side
  · exact Bool.and_eq_true_iff.2 ⟨beq_iff_eq.2 hc, hr⟩
  · exact Bool.and_eq_true_iff.2 ⟨hl, beq_iff_eq.2 hc⟩

theorem Corner.withHeight_valve {c : Corner} (h : c.valve = .closed) (q : Sensor Int) :
    (c.withHeight q).valve = .closed := by
  unfold Corner.withHeight
  split
  · exact h
  · rfl

theorem Corner.countBand_valve (c : Corner) (e : Int) (deadband : Nat) : (c.countBand e deadband).valve = c.valve := by
  unfold Corner.countBand
  split <;> rfl

theorem Corner.retarget_valve (c : Corner) (target : Int) : (c.retarget target).valve = c.valve := by
  unfold Corner.retarget
  split <;> rfl

theorem State.sensorFault_valvesClosed (s : State) (e : SensorEvent) (c : FaultCode) (q : Nat) :
    (s.sensorFault e c q).valvesClosed = s.valvesClosed := by
  simp [State.valvesClosed]

@[simp] theorem State.setFilling_valvesClosed (s : State) : s.setFilling.valvesClosed = s.valvesClosed := rfl

@[simp] theorem State.noteTrims_valvesClosed (s : State) : s.noteTrims.valvesClosed = s.valvesClosed := rfl

section
variable (h : s.valvesClosed = true)
include h

theorem State.readHeight_valvesClosed (side : Side) (v : Microvolt) : (s.readHeight side v).valvesClosed = true := by
  simp only [State.readHeight, State.sensorFault_valvesClosed]
  exact State.putCorner_valvesClosed h side (Corner.withHeight_valve (State.corner_valve h side) _)

theorem State.readBellows_valvesClosed (side : Side) (v : Microvolt) : (s.readBellows side v).valvesClosed = true := by
  simp only [State.readBellows, State.sensorFault_valvesClosed]
  exact State.putCorner_valvesClosed h side (State.corner_valve h side)

theorem State.readSupply_valvesClosed (v : Microvolt) : (s.readSupply v).valvesClosed = true := by
  unfold State.readSupply
  split
  · simp only [State.sensorFault_valvesClosed]
    exact h
  · exact h

theorem State.levelStage2_valvesClosed : s.levelStage2.valvesClosed = true := by
  simp only [State.levelStage2]
  split
  · exact h
  · exact h

theorem State.levelStage3_valvesClosed : s.levelStage3.valvesClosed = true := by
  unfold State.levelStage3
  split
  · exact h
  · split
    · exact h
    · exact h

theorem State.lockTest_valvesClosed (side : Side) : (s.lockTest side).valvesClosed = true := by
  have hc : ((s.corner side).retarget (s.cornerTarget side)).valve = .closed :=
    (Corner.retarget_valve _ _).trans (State.corner_valve h side)
  simp only [State.lockTest]
  split
  · split
    · exact State.putCorner_valvesClosed h side ((Corner.countBand_valve _ _ _).trans hc)
    · exact State.putCorner_valvesClosed h side hc
  · exact State.putCorner_valvesClosed h side hc

/-- While a sweep runs a corner holds (R115). -/
theorem State.serveCorner_valvesClosed (hs : s.sweeping = true) (side : Side) :
    (s.serveCorner side).valvesClosed = true := by
  have hacts : s.acts side = false := by simp [State.acts, State.holds, hs]
  simp only [State.serveCorner, State.callsFill, State.exhausts, hacts, Bool.false_and]
  exact State.putCorner_valvesClosed h side rfl

theorem State.noteValve_valvesClosed (side : Side) : (s.noteValve side).valvesClosed = true :=
  State.putCorner_valvesClosed (c := { s.corner side with valveSeen := (s.corner side).valve }) h side
    (State.corner_valve h side)

theorem State.measureLoad_valvesClosed : s.measureLoad.valvesClosed = true := by
  unfold State.measureLoad
  split
  · split
    · exact h
    · exact h
  · exact h

theorem State.runRaiseTimer_valvesClosed : s.runRaiseTimer.valvesClosed = true := by
  unfold State.runRaiseTimer
  split
  · simp only
    split
    · exact h
    · exact h
  · exact h

theorem State.levelStage1_valvesClosed (r : LevelReadings) : (s.levelStage1 r).valvesClosed = true :=
  State.readSupply_valvesClosed (State.readBellows_valvesClosed (State.readBellows_valvesClosed
    (State.readHeight_valvesClosed (State.readHeight_valvesClosed h _ _) _ _) _ _) _ _) _

theorem State.levelStage5_valvesClosed (hs : s.sweeping = true) : s.levelStage5.valvesClosed = true :=
  State.serveCorner_valvesClosed (State.serveCorner_valvesClosed h hs _)
    ((State.sweeping_congr (by simp)).trans hs) _

theorem State.levellingPeriod_valvesClosed (hs : s.sweeping = true) (r : LevelReadings) :
    (s.levellingPeriod r).valvesClosed = true := by
  unfold State.levellingPeriod
  split
  · have h3 := State.levelStage3_valvesClosed (State.levelStage2_valvesClosed (State.levelStage1_valvesClosed h r))
    have h4 := State.lockTest_valvesClosed (State.lockTest_valvesClosed h3 .left) .right
    have h5 := State.levelStage5_valvesClosed h4 ((State.sweeping_congr (by simp)).trans hs)
    have hnoted := State.noteValve_valvesClosed (State.noteValve_valvesClosed (State.measureLoad_valvesClosed h5) .left) .right
    rw [State.noteTrims_valvesClosed]
    refine State.runRaiseTimer_valvesClosed ?_
    rwa [State.setFilling_valvesClosed]
  · exact h

end

/-! ### Steering leaves its outputs off and the counter at 0 while a sweep runs (R55, R61) -/

theorem State.enterPinned_tracking (s : State) (cause : PinCause) : (s.enterPinned cause).steering.tracking = 0 := by
  simp [State.enterPinned]

theorem State.computeDp_tracking (s : State) : s.computeDp.steering.tracking = s.steering.tracking := by
  unfold State.computeDp
  (repeat' split) <;> rfl

section
variable (h : s.steering.tracking = 0)
include h

theorem State.coilChecked_tracking : s.coilChecked.steering.tracking = 0 := by
  unfold State.coilChecked
  split
  · exact s.enterPinned_tracking .coil
  · exact h

theorem State.steerStage1_tracking (v : Microvolt) : (s.steerStage1 v).steering.tracking = 0 := by
  have hcoil := State.coilChecked_tracking h
  rcases hr : steerReading v with - | m
  · rw [State.steerStage1_of_none hr]
    split
    · exact State.enterPinned_tracking _ _
    · exact hcoil
  · rw [State.steerStage1_of_some hr]
    exact hcoil

theorem State.steerStage2_tracking : s.steerStage2.steering.tracking = 0 := by
  unfold State.steerStage2
  split
  · split
    · exact (State.computeDp_tracking _).trans h
    · exact h
  · split
    · exact h
    · exact h
  · exact h

theorem State.steerStage5_tracking (hs : s.sweeping = true) : s.steerStage5.steering.tracking = 0 := by
  simp only [State.steerStage5, hs, if_true]
  split
  · exact h
  · rfl

end

/-- During a sweep the outputs are off. -/
theorem State.steerOutputs_of_sweeping (hs : s.sweeping = true) : s.steerOutputs.steering.lockOn = false ∧
    s.steerOutputs.steering.actP = false ∧ s.steerOutputs.steering.actN = false := by
  simp [State.steerOutputs, hs]

theorem State.steeringPeriod_drivesOff (h : s.DrivesOff) (hs : s.sweeping = true) (v : Microvolt) :
    (s.steeringPeriod v).DrivesOff := by
  have hbrake : (s.steeringPeriod v).brake = s.brake := by simp
  have hlevel : (s.steeringPeriod v).levelling = s.levelling := by simp
  have hsteer : (s.steeringPeriod v).steering.lockOn = false ∧ (s.steeringPeriod v).steering.actP = false ∧
      (s.steeringPeriod v).steering.actN = false ∧ (s.steeringPeriod v).steering.tracking = 0 := by
    unfold State.steeringPeriod
    split
    · have htrack := State.steerStage2_tracking (State.steerStage1_tracking h.tracking v)
      have htrack5 := State.steerStage5_tracking (s := (s.steerStage1 v).steerStage2.steerStage3.steerStage4) htrack
        ((State.sweeping_congr (by simp)).trans hs)
      obtain ⟨hlock, hp, hn⟩ := State.steerOutputs_of_sweeping
        (s := (s.steerStage1 v).steerStage2.steerStage3.steerStage4.steerStage5) ((State.sweeping_congr (by simp)).trans hs)
      exact ⟨hlock, hp, hn, htrack5⟩
    · exact ⟨h.lock, h.bridge.1, h.bridge.2, h.tracking⟩
  obtain ⟨hlock, hp, hn, htrack⟩ := hsteer
  exact ⟨by rw [hbrake]; exact h.brakes, by simpa only [State.valvesClosed, hlevel] using h.valves, hlock,
    ⟨hp, hn⟩, htrack⟩

/-- A brake period drives no modulator while a sweep runs (R82). -/
theorem State.brakePeriod_driving (h : s.brake.driving = false) (hs : s.sweeping = true) (c : Sides Microvolt)
    (p : Pedals) : (s.brakePeriod c p).brake.driving = false := by
  unfold State.brakePeriod
  split
  · simp only [State.measureBraking, State.driveModulators, Bool.not_eq_false']
    exact (State.sweeping_congr (by simp)).trans hs
  · exact h

/-! ### The end of a change that a sweep watches -/

/-- After the watch a sweep that still runs has its conditions. -/
theorem State.SweepOk.checked (h : s.SweepOk) (hu : u.startUp = s.startUp) (hb : u.brake = s.brake)
    (hs : u.steering = s.steering) (hl : u.levelling = s.levelling) : u.checkSweep.SweepOk := by
  unfold State.checkSweep
  split
  · exact .of_not_sweeping (by simp)
  · next hc =>
    refine u.sweepOk_iff.2 fun hr => ?_
    obtain ⟨-, hgood, hoff⟩ := s.sweepOk_iff.1 h ((State.sweeping_congr hu).symm.trans hr)
    exact ⟨by simpa [hr] using hc, by rw [hu]; exact hgood, hoff.of_blocks hb hs hl⟩

/-- Neither start-up nor the conditions have changed, and the drives stay off. -/
theorem State.SweepOk.of_stays (h : s.SweepOk) (hu : t.startUp = s.startUp)
    (hm : s.sweepMayRun = true → t.sweepMayRun = true) (hd : s.sweeping = true → s.DrivesOff → t.DrivesOff) :
    t.SweepOk := by
  refine t.sweepOk_iff.2 fun hr => ?_
  have hr' : s.sweeping = true := (State.sweeping_congr hu).symm.trans hr
  obtain ⟨hmay, hgood, hoff⟩ := s.sweepOk_iff.1 h hr'
  exact ⟨hm hmay, by rw [hu]; exact hgood, hd hr' hoff⟩

/-! ### A sweep that starts or goes on -/

theorem State.sweepFrom_sweepOk (hm : s.sweepMayRun = true) (hg : s.startUp.status = .good) (hd : s.DrivesOff) (i : Nat) :
    (s.sweepFrom i).SweepOk := by
  unfold State.sweepFrom
  split
  · exact (State.sweepOk_iff _).2 fun _ => ⟨hm, hg, hd.of_blocks rfl rfl rfl⟩
  · exact .of_not_sweeping (by simp)

theorem State.startSweep_sweepOk (h : s.sweepMayStart = true) : s.startSweep.SweepOk := by
  obtain ⟨hm, hg⟩ := Bool.and_eq_true_iff.1 h
  exact State.sweepFrom_sweepOk (s := s.handOver) hm (beq_iff_eq.1 hg) s.handOver_drivesOff 0

/-- A step goes on to the next coil under the conditions it was taken in (R168). -/
theorem State.sweepStep_sweepOk (h : s.SweepOk) (hr : s.sweeping = true) (hm : s.sweepMayRun = true) (f : Bool) :
    (s.sweepStep f).SweepOk := by
  obtain ⟨-, hg, hd⟩ := s.sweepOk_iff.1 h hr
  simp only [State.sweepStep]
  split
  · exact (State.sweepOk_iff _).2 fun _ => ⟨hm, hg, hd.of_blocks rfl rfl rfl⟩
  · refine State.sweepFrom_sweepOk ?_ (by simpa using hg) (hd.of_blocks (by simp) (by simp) (by simp)) _
    exact (State.sweepMayRun_of_blocks (by simp) (by simp) (by simp) (by simp)).trans hm

/-- START's choice: a sweep under its start conditions, or a skip, which no RUNNING sweep allows. -/
theorem State.sweepOrSkip_sweepOk (h : s.SweepOk) : s.sweepOrSkip.SweepOk := by
  unfold State.sweepOrSkip
  split
  · next hm => exact State.startSweep_sweepOk hm
  · next hm =>
    refine .of_not_sweeping (Bool.eq_false_iff.2 fun hr => hm ?_)
    obtain ⟨hmay, hg, -⟩ := s.sweepOk_iff.1 h hr
    simp [State.sweepMayStart, hmay, hg]

/-! ### Frames -/

/-- The blocks that the rule speaks of are as they were. -/
def State.SweepSees (s t : State) : Prop :=
  t.startUp = s.startUp ∧ t.ladder = s.ladder ∧ t.peerView.demand = s.peerView.demand ∧
    t.interlock.records = s.interlock.records ∧ t.brake = s.brake ∧ t.levelling = s.levelling

theorem State.SweepOk.of_blocks (h : s.SweepOk) (hb : s.SweepSees t) (hs : s.OutputsStay t) : t.SweepOk := by
  obtain ⟨hu, hl, hf, hi, hb, hv⟩ := hb
  exact h.of_stays hu
    (fun hm => (State.sweepMayRun_congr (by rw [hl]) (by rw [hl]) (by rw [hf]) (by rw [hf]) (by rw [hu]) hi).trans hm)
    fun _ hd => hd.congr (by rw [hb]) hs (by simp only [State.valvesClosed, hv])

/-- Link, faults, service and the like have changed alone. -/
theorem State.SweepOk.of_other (h : s.SweepOk) (hb : s.SweepSees t) (hs : t.steering = s.steering) : t.SweepOk :=
  h.of_blocks hb (.of_steering hs)

theorem State.routeRequest_sweepOk (h : s.SweepOk) (a : Address) (p : List Byte) : (s.routeRequest a p).SweepOk := by
  rcases s.routeRequest_taken a p with hr | ⟨hm, v, hv⟩
  · refine h.of_stays hr.startUp (fun hmay => ?_) fun _ hd => hd.congr (by rw [hr.brake]) (.of_steering hr.steering) hr.valves
    exact (State.sweepMayRun_of_blocks (by simp) (by simp) (by rw [hr.startUp]) (by simp)).trans hmay
  · exact hv ▸ State.startSweep_sweepOk (s := { s with service := v }) hm

theorem State.acceptDemand_sweepOk (h : s.SweepOk) (v : DemandValues) : (s.acceptDemand v).SweepOk :=
  h.checked (by simp) (by simp) (by simp) (by simp)

theorem State.takeState_demand (s : State) (n : Fin 8) (p : List Byte) :
    (s.takeState n p).peerView.demand = s.peerView.demand := by
  unfold State.takeState
  split <;> rfl

theorem State.takeAlert_demand (s : State) (n : Fin 8) (p : List Byte) :
    (s.takeAlert n p).peerView.demand = s.peerView.demand := by
  unfold State.takeAlert
  split <;> rfl

theorem State.duplicateHeard_demand (s : State) : s.duplicateHeard.peerView.demand = s.peerView.demand := by
  simp [State.duplicateHeard]

theorem State.route_sweepOk (h : s.SweepOk) (k : Kind) (a : Address) (p : List Byte) : (s.route k a p).SweepOk := by
  cases k with
  | state => exact h.of_other (by simp [State.SweepSees, State.route, State.takeState_demand]) (by simp [State.route])
  | alert => exact h.of_other (by simp [State.SweepSees, State.route, State.takeAlert_demand]) (by simp [State.route])
  | serviceReply => exact h
  | serviceReq => exact State.routeRequest_sweepOk h a p
  | demand =>
    simp only [State.route, State.takeDemand]
    split
    · split
      · exact h.of_other ⟨rfl, rfl, rfl, rfl, rfl, rfl⟩ rfl
      · exact State.acceptDemand_sweepOk h _
    · exact h.of_other ⟨rfl, rfl, rfl, rfl, rfl, rfl⟩ rfl
  | trace =>
    simp only [State.route]
    split
    · exact h.of_blocks (by simp [State.SweepSees]) ⟨_, _, s.takeTrace_steering p⟩
    · exact h.of_other ⟨rfl, rfl, rfl, rfl, rfl, rfl⟩ rfl

theorem State.receive_sweepOk (h : s.SweepOk) (head : RawHead) (p : List Byte) : (s.receive head p).SweepOk :=
  State.receive_keeps (P := State.SweepOk) (fun _ _ hu => hu.of_other ⟨rfl, rfl, rfl, rfl, rfl, rfl⟩ rfl)
    (fun _ hu => hu.of_other ⟨rfl, rfl, rfl, rfl, rfl, rfl⟩ rfl)
    (fun _ hu => hu.of_other (by simp [State.SweepSees, State.duplicateHeard_demand]) (by simp))
    (fun _ k a p hu => State.route_sweepOk hu k a p) h head p

/-! ### The commands -/

theorem State.SweepOk.ite {c : Bool} (h : s.SweepOk) (ht : c = true → t.SweepOk) : (if c then t else s).SweepOk := by
  split
  · next hc => exact ht hc
  · exact h

/-- No sweep runs before the configuration is held, nor after the image read. -/
theorem State.configure_sweepOk (h : s.SweepOk) (hn : s.startUp.status = .notLoaded) (image : List Byte) :
    (s.configure image).SweepOk := by
  have hidle : s.sweeping = false := by
    rw [Bool.eq_false_iff]
    intro hr
    exact nomatch hn.symm.trans (h.config hr)
  have hsweep : (s.configure image).startUp.sweep = s.startUp.sweep := by
    simp only [State.configure, State.firstState_frame, State.blocksStart_startUp, State.holdImage]
    split <;> rfl
  exact .of_not_sweeping (by simpa only [State.sweeping, hsweep] using hidle)

/-- At its limit the still timer says STANDSTILL (R3). -/
theorem State.updateQualifier_standstill (h : s.stillDue = true) : s.updateQualifier.ladder.qualifier = .standstill := by
  obtain ⟨hslow, htimer⟩ : s.ownSpeed ≤ 5 ∧ 490 ≤ s.ladder.stillTimer := by simpa [State.stillDue] using h
  have hfull : stillAfter s.ownSpeed s.ladder.stillTimer = 500 := by rw [stillAfter_of_slow hslow]; omega
  simp only [State.updateQualifier, hfull, qualifierOf_of_slow hslow, if_true]

theorem State.sweepMayRun_standstill (h : s.sweepMayRun = true) : s.ladder.qualifier = .standstill := by
  simp only [State.sweepMayRun, Bool.and_eq_true, beq_iff_eq] at h
  exact h.1.1.1.2

theorem State.stillTimerFull_sweepOk (h : s.SweepOk) (hd : s.stillDue = true) : s.updateQualifier.SweepOk :=
  h.of_stays rfl
    (fun hm => (State.sweepMayRun_congr (by exact rfl)
      ((State.updateQualifier_standstill hd).trans (State.sweepMayRun_standstill hm).symm) rfl rfl rfl rfl).trans hm)
    fun _ hoff => hoff.of_blocks rfl rfl rfl

/-- A FRESH record that goes STALE keeps its values, and is not LOST. -/
theorem State.demandStale_sweepOk (h : s.SweepOk) (hd : s.demandStaleDue = true) : (s.markDemand .stale).SweepOk := by
  refine h.of_stays rfl (fun hm => ?_) fun _ hoff => hoff.of_blocks rfl rfl rfl
  have hfresh : s.peerView.demand.freshness = .fresh := by
    simp only [State.demandStaleDue, State.demandFreshness, Bool.and_eq_true, beq_iff_eq] at hd
    exact hd.1
  have hd : s.demand.d = s.peerView.demand.values.d := by simp only [State.demand, hfresh]
  simp only [State.sweepMayRun, hd, State.demandFreshness, hfresh] at hm
  exact hm

theorem State.SameDoors.allLocked (h : s.SameDoors t) (hc : t.cfg = s.cfg) (hl : s.allLocked = true) :
    t.allLocked = true := by
  rw [State.allLocked_iff] at *
  intro slot hf
  obtain ⟨e, he, hlocked⟩ := hl slot (hc ▸ hf)
  obtain ⟨e', he', hstate⟩ := h.of_some he
  exact ⟨e', he', hstate.trans hlocked⟩

/-- The conditions look at the entrances' states alone. -/
theorem State.sweepMayRun_of_doors (hm : t.ladder.mode = s.ladder.mode) (hq : t.ladder.qualifier = s.ladder.qualifier)
    (hf : t.peerView.demand.freshness = s.peerView.demand.freshness)
    (hv : t.peerView.demand.values = s.peerView.demand.values) (hc : t.startUp.config = s.startUp.config)
    (hd : s.SameDoors t) (h : s.sweepMayRun = true) : t.sweepMayRun = true := by
  simp only [State.sweepMayRun, Bool.and_eq_true] at h ⊢
  obtain ⟨hrest, hlocked⟩ := h
  exact ⟨by simpa only [State.demand, State.demandFreshness, hm, hq, hf, hv] using hrest,
    hd.allLocked (State.cfg_congr hc) hlocked⟩

/-- An alert of a breach moves no entrance. -/
theorem State.breachAlert_sweepOk (h : s.SweepOk) (slot : Slot) : (s.breachAlert slot).SweepOk :=
  h.of_stays (by simp)
    (State.sweepMayRun_of_doors (by simp) (by simp) (by simp) (by simp) (by simp) (s.breachAlert_sameDoors slot))
    fun _ hoff => hoff.of_blocks (by simp) (by simp) (by simp)

/-- Start-up, the blocks that the conditions look at, brakes and steering are as they were. -/
def State.LevelsAlone (s t : State) : Prop :=
  t.startUp = s.startUp ∧ t.ladder = s.ladder ∧ t.peerView = s.peerView ∧ t.interlock = s.interlock ∧
    t.brake = s.brake ∧ t.steering = s.steering

/-- Levelling keeps both valves closed while a sweep runs. -/
theorem State.SweepOk.levelled (h : s.SweepOk) (hf : s.LevelsAlone t)
    (hv : s.sweeping = true → s.valvesClosed = true → t.valvesClosed = true) : t.SweepOk := by
  obtain ⟨hu, hl, hp, hi, hb, hs⟩ := hf
  exact h.of_stays hu (fun hm => (State.sweepMayRun_of_blocks hl hp (by rw [hu]) hi).trans hm) fun hr hoff =>
    hoff.congr (by rw [hb]) (.of_steering hs) ((hv hr hoff.valves).trans hoff.valves.symm)

/-- A corner that counts a period keeps its valve, and serves with it closed (R114, R115). -/
theorem State.counted_valvesClosed (h : s.valvesClosed = true) (side : Side) :
    (s.putCorner side ((s.corner side).countBand (s.corner side).error s.cfg.deadband)).valvesClosed = true :=
  State.putCorner_valvesClosed h side ((Corner.countBand_valve _ _ _).trans (State.corner_valve h side))

/-- The brake block's and the steering block's own commands leave their drives off while a sweep runs. -/
theorem State.SweepOk.driven (h : s.SweepOk) (hu : t.startUp = s.startUp) (hl : t.ladder = s.ladder)
    (hp : t.peerView = s.peerView) (hi : t.interlock = s.interlock)
    (hd : s.sweeping = true → s.DrivesOff → t.DrivesOff) : t.SweepOk :=
  h.of_stays hu (fun hm => (State.sweepMayRun_of_blocks hl hp (by rw [hu]) hi).trans hm) hd

theorem State.trackingDue_not_sweeping (h : s.trackingDue = true) : s.sweeping = false := by
  simp_all [State.trackingDue]

/-- Every command keeps the rule: what a sweep watches is checked at once, the blocks keep their drives off while it runs,
and a sweep starts under its conditions alone. -/
theorem exec_sweepOk (c : Instr) (s t : State) (hs : s.SweepOk) (h : exec c s = .next t) : t.SweepOk := by
  cases c with
  | powerOnReset => exact holds_of_next h (.of_not_sweeping rfl)
  | serviceRestart => exact holds_of_next h (hs.ite fun _ => .of_not_sweeping rfl)
  | configurationImageRead image =>
    exact holds_of_next h (hs.ite fun hn => State.configure_sweepOk hs (by simpa using hn) image)
  | sweepOrSkip => exact holds_of_next h (hs.ite fun _ => State.sweepOrSkip_sweepOk hs)
  | sweepStep f =>
    refine holds_of_next h (hs.ite fun hr => ?_)
    split
    · next hm => exact State.sweepStep_sweepOk hs hr hm f
    · exact .of_not_sweeping (by simp)
  | ladderPeriod =>
    exact holds_of_next h (hs.checked (u := s.ladderInputs.takeEdge) (by simp) (by simp) (by simp) (by simp))
  | demandLost => exact holds_of_next h (hs.ite fun _ => hs.checked (by simp) (by simp) (by simp) (by simp))
  | entrancePeriod =>
    exact holds_of_next h (hs.ite fun _ => hs.checked (by simp) (by simp) (by simp) (by simp))
  | lockTimeout | closeTimeout | reopeningDone =>
    refine holds_of_next h ?_
    split
    · exact hs.ite fun _ => hs.checked (by simp) (by simp) (by simp) (by simp)
    · exact hs
  | demandComputation w =>
    refine holds_of_next h (hs.ite fun _ => State.acceptDemand_sweepOk (hs.of_other ?_ (by simp)) _)
    simp [State.SweepSees, State.setLines]
  | stateFrame | demandFrame | alertFrame | traceFrame | serviceReplyFrame | frameRejected | snapshot | readFaults
  | clearFaults | calibrateHeight | coilSweep | restart | unknownRequest =>
    exact holds_of_next h (State.receive_sweepOk hs _ _)
  | stillTimerFull => exact holds_of_next h (hs.ite fun hd => State.stillTimerFull_sweepOk hs hd)
  | demandStale => exact holds_of_next h (hs.ite fun hd => State.demandStale_sweepOk hs hd)
  | entranceBreachRepeat slot => exact holds_of_next h (hs.ite fun _ => State.breachAlert_sweepOk hs slot)
  | startupTimerLimit | recoveryTimerFull | peerStale | peerLost | peerAbsentLimit | demandAbsentLimit =>
    exact holds_of_next h (hs.ite fun _ => hs.of_stays rfl (fun hm => hm) fun _ hd => hd.of_blocks rfl rfl rfl)
  | steerPinnedRepeat =>
    exact holds_of_next h (hs.ite fun _ => hs.of_blocks (by simp [State.SweepSees]) ⟨s.steering.dp, 20, by simp⟩)
  | steeringPeriod sta =>
    exact holds_of_next h (hs.driven (by simp) (by simp) (by simp) (by simp) fun hr hd =>
      State.steeringPeriod_drivesOff hd hr sta)
  | trackingFault =>
    exact holds_of_next h (hs.ite fun hd => .of_not_sweeping
      ((State.sweeping_congr (by simp)).trans (State.trackingDue_not_sweeping hd)))
  | brakePeriod ch ped =>
    exact holds_of_next h (hs.driven (by simp) (by simp) (by simp) (by simp) fun hr hd =>
      hd.congr ((State.brakePeriod_driving hd.brakes hr ch ped).trans hd.brakes.symm) (.of_steering (by simp))
        (by simp [State.valvesClosed]))
  | chamberSensorRecovery side level =>
    exact holds_of_next h (hs.ite fun _ => hs.driven (by simp) (by simp) (by simp) (by simp) fun _ hd =>
      hd.congr (by rw [State.readChamber_eq]) (.of_steering (by simp)) (by simp [State.valvesClosed]))
  | levellingPeriod r =>
    exact holds_of_next h (hs.levelled (by simp [State.LevelsAlone]) fun hr hv =>
      State.levellingPeriod_valvesClosed hv hr r)
  | airWindowStart => exact holds_of_next h (hs.ite fun _ => hs.levelled (by simp [State.LevelsAlone]) fun _ hv => hv)
  | raiseSlow =>
    exact holds_of_next h (hs.ite fun _ => hs.levelled (by simp [State.LevelsAlone]) fun _ hv =>
      State.runRaiseTimer_valvesClosed hv)
  | cornerLocked side =>
    exact holds_of_next h (hs.ite fun _ => hs.levelled (by simp [State.LevelsAlone]) fun _ hv =>
      State.counted_valvesClosed hv side)
  | outOfBandLimit side =>
    exact holds_of_next h (hs.ite fun _ => hs.levelled (by simp [State.LevelsAlone]) fun hr hv =>
      State.noteValve_valvesClosed (State.serveCorner_valvesClosed (State.counted_valvesClosed hv side)
        ((State.sweeping_congr (by simp)).trans hr) side) side)
  | heightSensorRecovery side level =>
    exact holds_of_next h (hs.ite fun _ => hs.levelled (by simp [State.LevelsAlone]) fun _ hv =>
      State.readHeight_valvesClosed hv side level)
  | bellowsSensorRecovery side level =>
    exact holds_of_next h (hs.ite fun _ => hs.levelled (by simp [State.LevelsAlone]) fun _ hv =>
      State.readBellows_valvesClosed hv side level)
  | supplySensorRecovery level =>
    exact holds_of_next h (hs.ite fun _ => hs.levelled (by simp [State.LevelsAlone]) fun _ hv =>
      State.readSupply_valvesClosed hv level)
  | trackerPeriod | jointPeriod | slipPeriod | wheelPulse =>
    exact holds_of_next h (hs.of_other (by simp [State.SweepSees]) (by simp))
  | alertExpiry | linkIdle | statePromotion | frameCheckError | frameFormatError =>
    exact holds_of_next h (hs.of_other ⟨rfl, rfl, rfl, rfl, rfl, rfl⟩ rfl)
  | _ => exact holds_of_next h (hs.ite fun _ => hs.of_other (by simp [State.SweepSees]) (by simp))

theorem State.pass_sweepOk (h : s.SweepOk) : s.pass.SweepOk := by
  have hladder : s.pass.ladder = _ := s.ladder.pass_eq
  refine h.of_stays rfl (State.sweepMayRun_of_doors ?_ ?_ rfl rfl rfl s.pass_doorsStay.doors) fun _ hd =>
    hd.congr rfl ⟨_, _, rfl⟩ rfl
  · rw [hladder]
  · rw [hladder]

/-- Settles O58: a millisecond runs timers and ages alone. -/
theorem everyStepKeepsSweepsWithinConditions : Obligations.EveryStepKeepsSweepsWithinConditions := fun _ _ =>
  step_keeps (fun _ _ hs => hs.of_other ⟨rfl, rfl, rfl, rfl, rfl, rfl⟩ rfl) (fun _ hs => State.pass_sweepOk hs)
    exec_sweepOk

end Sys2Proof.Machine
end

section
/-! PROOFS. The coil sweep: START's choice, a step's three registers, the coils driven while it runs. -/

namespace Sys2Proof.Machine

variable {s : State}

/-- START's choice is due (R166). -/
theorem State.choiceDue_of_start (hg : s.startUp.status = .good) (hm : s.ladder.mode = .start)
    (hd : s.startUp.decided = false) (hn : s.startUp.done = false) (hq : s.ladder.qualifier ≠ .settling) :
    s.choiceDue = true := by
  simp [State.choiceDue, hg, hm, hd, hn, hq]

theorem State.sweepMayStart_of_good (hg : s.startUp.status = .good) : s.sweepMayStart = s.sweepMayRun := by
  simp [State.sweepMayStart, hg]

/-- Settles O8: the choice is due, and the sweep's conditions decide it. -/
theorem startUpSweepsOrSkips : Obligations.StartUpSweepsOrSkips := by
  intro s hg hm hd hn hq
  have hexec : exec .sweepOrSkip s = .next s.sweepOrSkip :=
    congrArg Host.Outcome.next (if_pos (State.choiceDue_of_start hg hm hd hn hq))
  refine ⟨rfl, fun hmay i hi hok hbelow => ?_, fun hmay => ?_⟩
  · have hstart := State.startSweep_of_lowest (s := { s with startUp := { s.startUp with decided := true } }) hi hok hbelow
    rw [hexec, State.sweepOrSkip, if_pos ((State.sweepMayStart_of_good hg).trans hmay), hstart]
    rfl
  · rw [hexec, State.sweepOrSkip, if_neg (by simp [State.sweepMayStart_of_good hg, hmay])]

/-! ### A step (R168) -/

theorem shiftIn_getLsbD (r : Half) (top : Bool) {i : Nat} (h : i < 15) :
    (shiftIn r top).getLsbD i = r.getLsbD (i + 1) := by
  have hlow : (if top then 0x8000#16 else 0#16).getLsbD i = false := by
    cases top
    · simp
    · interval_cases i <;> rfl
  simp [shiftIn, hlow, Nat.add_comm]

theorem shiftIn_getLsbD_top (r : Half) (top : Bool) : (shiftIn r top).getLsbD 15 = top := by
  cases top <;> simp [shiftIn]

theorem Sweep.advance_shifts (w : Sweep) (f : Bool) : w.Shifts (w.advance f) f where
  counted := ⟨rfl, rfl, rfl⟩
  moved _ hi := ⟨shiftIn_getLsbD _ _ hi, shiftIn_getLsbD _ _ hi, shiftIn_getLsbD _ _ hi⟩
  pattern := shiftIn_getLsbD_top _ _
  drive := shiftIn_getLsbD_top _ _
  sense := shiftIn_getLsbD_top _ _

/-- Before the last step of a test the registers alone change. -/
theorem State.sweepStep_of_lt (h : s.startUp.sweep.step < 31) (f : Bool) :
    s.sweepStep f = { s with startUp := { s.startUp with sweep := s.startUp.sweep.advance f } } :=
  if_pos (show s.startUp.sweep.step + 1 < 32 by omega)

/-- A RUNNING sweep drives its coil by the drive bit, and leaves the stop-brake valve its command (R167). -/
theorem State.coilOn_of_sweeping (h : s.sweeping = true) (i : Nat) : s.coilOn i =
    if i == s.startUp.sweep.coil then s.startUp.sweep.driveBit else i == 8 && s.interlock.valve := by
  simp only [State.coilOn, h, if_true]

/-- Settles O9: the step advances the registers, and a RUNNING sweep's coils are its own. -/
theorem sweepStepShiftsRegisters : Obligations.SweepStepShiftsRegisters := by
  refine ⟨fun f s hr hm hstep => ⟨s.startUp.sweep.advance f, ?_, Sweep.advance_shifts _ f⟩, fun s i hr _ => ?_⟩
  · rw [← State.sweepStep_of_lt hstep]
    exact congrArg Host.Outcome.next ((if_pos hr).trans (if_pos hm))
  · rw [State.coilOn_of_sweeping hr, beq_eq_decide]
    by_cases hi : i = s.startUp.sweep.coil
    · simp [hi, Sweep.driveBit]
    · simp [hi]

end Sys2Proof.Machine
end

section
/-! PROOFS. What the levels on the analogue inputs stand for: roundings half away from zero, and the sensors' tenth
reading. -/

namespace Sys2Proof.Machine

variable {s : State}

/-! ### Roundings -/

/-- The sign is that of the dividend, and a dividend of 0 rounds to 0. -/
theorem roundHalfAway_of_nonneg {n : Int} (h : 0 ≤ n) (d : Nat) : roundHalfAway n d = roundHalfUp n.natAbs d := by
  rcases h.eq_or_lt with rfl | hpos
  · have hzero : d / (2 * d) = 0 := by
      rcases Nat.eq_zero_or_pos d with rfl | hd
      · rfl
      · exact Nat.div_eq_of_lt (by omega)
    simp [roundHalfAway, roundHalfUp, hzero]
  · rw [roundHalfAway, Int.sign_eq_one_of_pos hpos, one_mul, roundHalfUp]

theorem roundHalfAway_of_neg {n : Int} (h : n < 0) (d : Nat) : roundHalfAway n d = -(roundHalfUp n.natAbs d : Int) := by
  rw [roundHalfAway, Int.sign_eq_neg_one_of_neg h, neg_one_mul, roundHalfUp]

theorem roundHalfAway_roundsTo (n : Int) {d : Nat} (hd : 0 < d) : RoundsTo n d (roundHalfAway n d) := by
  obtain ⟨hlow, hhigh⟩ := roundHalfUp_bounds n.natAbs hd
  have hlow' : 2 * (d : Int) * roundHalfUp n.natAbs d ≤ 2 * n.natAbs + d := by exact_mod_cast hlow
  have hhigh' : 2 * (n.natAbs : Int) + d < 2 * (d : Int) * (roundHalfUp n.natAbs d + 1) := by exact_mod_cast hhigh
  refine ⟨fun hn => ?_, fun hn => ?_⟩
  · rw [roundHalfAway_of_nonneg hn]
    rw [Int.natAbs_of_nonneg hn] at hlow' hhigh'
    constructor <;> linarith
  · rw [roundHalfAway_of_neg hn]
    have habs : (n.natAbs : Int) = -n := by omega
    rw [habs] at hlow' hhigh'
    constructor <;> linarith

theorem clampInt_eq (lo hi x : Int) (h : lo ≤ hi) : clampInt lo hi x = max lo (min hi x) := by
  unfold clampInt
  split
  · omega
  · split <;> omega

/-! ### Levels as quantities -/

theorem angleOf_converts (v : Microvolt) : Converts v 2500000 3000 (angleOf v) := by
  have h := roundHalfAway_roundsTo (3 * ((v : Int) - 2500000)) (d := 1000) (by decide)
  simp only [Converts, RoundsTo, angleOf] at h ⊢
  omega

theorem steerReads (v : Microvolt) : SteerReads v := by
  refine ⟨angleOf v, angleOf_converts v, ?_⟩
  simp only [steerReading, Bool.and_eq_true, levelInRange_iff, decide_eq_true_eq, and_assoc]

theorem jointReads (v : Microvolt) : JointReads v := by
  refine ⟨angleOf v, angleOf_converts v, ?_⟩
  simp only [jointReading, levelInRange_iff]

theorem heightReads (v : Microvolt) : HeightReads v := by
  refine ⟨roundHalfAway (3 * ((v : Int) - 2500000)) 40000, ?_, ?_⟩
  · have h := roundHalfAway_roundsTo (3 * ((v : Int) - 2500000)) (d := 40000) (by decide)
    simp only [Converts, RoundsTo] at h ⊢
    omega
  · simp only [heightReading, levelInRange_iff]

/-- The quantity a level stands for, by its slope, in range or not. -/
theorem converts_roundHalfAway (v : Microvolt) (atZero perVolt : Nat) :
    Converts v atZero perVolt (roundHalfAway (perVolt * ((v : Int) - atZero)) 1000000) :=
  roundHalfAway_roundsTo _ (by decide)

theorem chamberReads (v : Microvolt) : ChamberReads v := by
  refine ⟨_, converts_roundHalfAway v 500000 300, ?_⟩
  simp only [chamberReading, levelInRange_iff]
  refine if_ctx_congr Iff.rfl (fun hr => ?_) fun _ => rfl
  have h := converts_roundHalfAway v 500000 300
  obtain ⟨hlow, hhigh⟩ := roundHalfUp_bounds (3 * (v - 500000)) (d := 10000) (by decide)
  simp only [Converts, RoundsTo] at h
  congr 1
  omega

theorem bellowsReads (v : Microvolt) : BellowsReads v := by
  refine ⟨_, converts_roundHalfAway v 500000 250, ?_⟩
  simp only [bellowsReading, levelInRange_iff]
  refine if_ctx_congr Iff.rfl (fun hr => ?_) fun _ => rfl
  have h := converts_roundHalfAway v 500000 250
  obtain ⟨hlow, hhigh⟩ := roundHalfUp_bounds (v - 500000) (d := 4000) (by decide)
  simp only [Converts, RoundsTo] at h
  congr 1
  omega

theorem supplyReads (v : Microvolt) : SupplyReads v := by
  refine ⟨_, converts_roundHalfAway v 500000 320, ?_⟩
  simp only [supplyReading, levelInRange_iff]
  refine if_ctx_congr Iff.rfl (fun hr => ?_) fun _ => rfl
  have h := converts_roundHalfAway v 500000 320
  obtain ⟨hlow, hhigh⟩ := roundHalfUp_bounds (8 * (v - 500000)) (d := 25000) (by decide)
  simp only [Converts, RoundsTo] at h
  congr 2
  omega

/-! ### The tenth reading -/

theorem Sensor.read_tenth {α : Type} {q : Sensor α} (hv : q.valid = false) (hr : q.recovery = 9) (x : α) :
    q.read (some x) = ({ valid := true, recovery := 10, value := some x }, .ended) := by
  simp [Sensor.read, hv, hr]

theorem Sensor.recovers_tenth {α : Type} {q : Sensor α} (hv : q.valid = false) (hr : q.recovery = 9) (x : α) :
    q.recovers (some x) = true := by
  simp [Sensor.recovers, hv, hr]

theorem State.testLimit_tested (s : State) (a : Int) : s.LimitTested (s.testLimit a) a where
  sets hl ha := by simp [State.testLimit, hl, ha]
  clears hl ha := by simp [State.testLimit, hl, ha]
  stays h := by
    rcases h with ⟨hl, ha⟩ | ⟨hl, ha⟩
    · simp [State.testLimit, hl, show ¬5200 ≤ a.natAbs by omega]
    · simp [State.testLimit, hl, show ¬a.natAbs < 4800 by omega]

/-- The angle tested against LIMIT is the one read. -/
theorem angleOf_of_jointReading {v : Microvolt} {a : Int} (h : jointReading v = some a) : angleOf v = a :=
  (Option.ite_none_right_eq_some.1 h).2 |> Option.some.inj

/-- Settles O34: at the tenth reading the command's guard holds, and the sensor's own reading says the rest. -/
theorem sensorsRecoverAtTheTenthReading : Obligations.SensorsRecoverAtTheTenthReading := by
  refine ⟨fun v => ⟨jointReads v, chamberReads v, heightReads v, bellowsReads v, supplyReads v⟩, fun s =>
    ⟨fun v a hj ha hv hr => ⟨_, rfl, ?_⟩, fun side v a hl ha hv hr => ?_, fun side v a hl ha hv hr => ?_,
      fun side v a hl ha hv hr => ?_, fun v a hl hf ha hv hr => ?_⟩⟩
  · have hread := Sensor.read_tenth hv hr a
    simp only [hj, ha, Sensor.recovers_tenth hv hr, Bool.and_self, if_true, State.takeJointReading, hread,
      State.sensorFault, angleOf_of_jointReading ha]
    exact State.testLimit_tested _ a
  · simp only [exec, execChamberSensorRecovery, hl, ha, Sensor.recovers_tenth hv hr, Bool.and_self, if_true,
      State.readChamber, Sensor.read_tenth hv hr, State.sensorFault, State.finish]
  · simp only [exec, execHeightSensorRecovery, hl, ha, Sensor.recovers_tenth hv hr, Bool.and_self, if_true,
      State.readHeight, Sensor.read_tenth hv hr, State.sensorFault, State.finish]
    rfl
  · simp only [exec, execBellowsSensorRecovery, hl, ha, Sensor.recovers_tenth hv hr, Bool.and_self, if_true,
      State.readBellows, Sensor.read_tenth hv hr, State.sensorFault, State.finish]
    rfl
  · simp only [exec, execSupplySensorRecovery, hl, hf, ha, Sensor.recovers_tenth hv hr, Bool.and_self, if_true,
      State.readSupply, Sensor.read_tenth hv hr, State.sensorFault, State.finish]

end Sys2Proof.Machine
end

section
/-! PROOFS. The trace generator, and what the tracker's own commands and its first TRACE do to the path. -/

namespace Sys2Proof.Machine

variable {s : State}

/-! ### The trace generator (R36 to R38) -/

theorem State.tracePulse_of_reverse (hc : s.isCab = true) (hr : s.demand.rev = true) (sta : Microvolt) :
    s.tracePulse sta = { s with tracker := { s.tracker with accumulator := 0 } } := by
  simp [State.tracePulse, hc, hr]

theorem State.tracePulse_of_other (hc : s.isCab = false) (sta : Microvolt) : s.tracePulse sta = s := by
  simp [State.tracePulse, hc]

section
variable (hc : s.isCab = true) (hr : s.demand.rev = false)
include hc hr

theorem State.tracePulse_of_short (h : s.tracker.accumulator + 1 < 2 * s.cfg.pulsesPerStep) (sta : Microvolt) :
    s.tracePulse sta = { s with tracker := { s.tracker with accumulator := s.tracker.accumulator + 1 } } := by
  simp [State.tracePulse, hc, hr, State.pulsesNeeded, h]

theorem State.tracePulse_of_full (h : 2 * s.cfg.pulsesPerStep ≤ s.tracker.accumulator + 1) (sta : Microvolt) :
    s.tracePulse sta = State.completeStep { s with tracker := { s.tracker with
      accumulator := s.tracker.accumulator + 1 - 2 * s.cfg.pulsesPerStep } } sta := by
  simp [State.tracePulse, hc, hr, State.pulsesNeeded, Nat.not_lt.2 h]

theorem State.execPathStep_of_full (h : 2 * s.cfg.pulsesPerStep ≤ s.tracker.accumulator + 1) (sta : Microvolt) :
    exec (.pathStep sta) s = .next (s.tracePulse sta) :=
  congrArg Host.Outcome.next (if_pos (by simp [State.stepDue, State.pulsesNeeded, hc, hr, h]))

end

theorem State.completeStep_of_some {sta : Microvolt} {a : Int} (h : steerReading sta = some a) (s : State) :
    s.completeStep sta = State.offer { s with
      tracker := { s.tracker with traceIndex := s.tracker.traceIndex + 1 }
      faults := s.faults.finish .steerTrack 2 }
        { kind := .trace, cls := 1, dest := 8, payload := bytesOf 2 (s.tracker.traceIndex + 1).toNat ++
          signedBytesOf 2 (curvature a s.cfg.wheelbase) } := by
  simp only [State.completeStep, h]
  rfl

theorem State.completeStep_of_none {sta : Microvolt} (h : steerReading sta = none) (s : State) :
    s.completeStep sta = { s with
      tracker := { s.tracker with traceIndex := s.tracker.traceIndex + 1 }
      faults := s.faults.raise .steerTrack 2 } := by
  simp only [State.completeStep, h]
  rfl

/-- The curvature of an angle is its rounded quotient, clamped (R37). -/
theorem curvature_rounds (a : Int) {wheelbase : Nat} (h : 0 < wheelbase) :
    ∃ k, RoundsTo (a * 17453) (10 * wheelbase) k ∧ curvature a wheelbase = max (-1000) (min 1000 k) :=
  ⟨_, roundHalfAway_roundsTo _ (by omega), clampInt_eq _ _ _ (by decide)⟩

/-- Settles O27, by the two readings a completed step may take. -/
theorem pathStepTakesASample : Obligations.PathStepTakesASample := by
  refine ⟨steerReads, fun sta s hc hr hfull => ⟨s.tracePulse sta, _, State.execPathStep_of_full hc hr hfull sta, rfl,
    fun hnone => ?_, fun a ha => ⟨curvature a s.cfg.wheelbase, curvature_rounds a, ?_⟩⟩⟩
  · rw [State.tracePulse_of_full hc hr hfull, State.completeStep_of_none hnone]
  · rw [State.tracePulse_of_full hc hr hfull, State.completeStep_of_some ha]
    rfl

/-- The wheel's record with one pulse more (R95). -/
def State.pulseCounted (s : State) (side : Side) : State :=
  s.putWheel side { atSide s.slip.wheels side with count := min 255 ((atSide s.slip.wheels side).count + 1) }

theorem State.wheelPulse_eq (s : State) (side : Side) (sta : Microvolt) :
    s.wheelPulse side sta = (s.pulseCounted side).tracePulse sta := by
  simp only [State.wheelPulse, State.pulseCounted, growTo_eq_min]

/-- Settles O26: the wheel counts the pulse, and the trace generator then takes it. -/
theorem wheelPulseIsCounted : Obligations.WheelPulseIsCounted := by
  intro side sta s
  have hslip : ((s.pulseCounted side).tracePulse sta).slip = (s.pulseCounted side).slip := by simp
  refine ⟨_, congrArg Host.Outcome.next (s.wheelPulse_eq side sta), ?_, ?_, ?_, fun hc => ?_, fun hc hr => ?_,
    fun hc hr hshort => ?_, fun hc hr hfull => ?_⟩
  · apply State.eq_of_blocks <;> simp [State.pulseCounted]
  · rw [hslip]
    exact atSide_putSide _ _ _
  · rw [hslip]
    exact atSide_putSide_other _ _ _
  · rw [hslip, State.tracePulse_of_other (s := s.pulseCounted side) hc]
    rfl
  · rw [hslip, State.tracePulse_of_reverse (s := s.pulseCounted side) hc hr]
    rfl
  · rw [hslip, State.tracePulse_of_short (s := s.pulseCounted side) hc hr hshort]
    rfl
  · rw [hslip]
    exact State.execPathStep_of_full (s := s.pulseCounted side) hc hr hfull sta

/-! ### The path broken, emptied and begun again -/

theorem State.breakPath_eq (s : State) (i : Half) (kappa : Int) (q : Nat) : s.breakPath i kappa q = { s with
    tracker := { s.tracker with
      queue := [⟨i, kappa, false⟩]
      rejectionRun := 0
      broken := true }
    faults := s.faults.raise .traceBroken q
    joint := if s.hasJoint then s.joint.afterClearing else s.joint } := by
  have hjoint : s.hasJoint = (State.raise { s with tracker := { s.tracker with
      queue := [⟨i, kappa, false⟩], rejectionRun := 0, broken := true } } .traceBroken q).hasJoint := rfl
  rw [hjoint, State.breakPath, State.jointCleared]
  split <;> rfl

theorem State.olderArrival_of_run (h : s.tracker.rejectionRun = 7) (i : Half) (kappa : Int) :
    s.olderArrival i kappa = s.breakPath i kappa 1 := by
  simp [State.olderArrival, h]

theorem State.traceBarred_iff (s : State) : s.traceBarred = true ↔ s.ladder.mode = .backup ∨ s.demand.rev = true := by
  simp [State.traceBarred]

theorem State.traceBarred_of_open (hm : s.ladder.mode ≠ .backup) (hr : s.demand.rev = false) : s.traceBarred = false := by
  simp [State.traceBarred, hm, hr]

/-- Settles O20: the arrival is the one that is due, and its run of eight is a break. -/
theorem eighthIgnoredArrivalBreaksPath : Obligations.EighthIgnoredArrivalBreaksPath := by
  intro i k s tail hpath hm hr hrun ht hgap
  have hdue : s.rejectionDue i = true := by
    simp [State.rejectionDue, hpath, State.traceBarred_of_open hm hr, hrun, ht, hgap]
  rw [← State.breakPath_eq, ← State.olderArrival_of_run hrun]
  exact congrArg Host.Outcome.next (if_pos hdue)

theorem prune_singleton (offset : Nat) (e : Sample) : prune offset [e] = [e] := by
  simp [prune, newestIndex, -BitVec.toNat_sub]

/-- A frame from the cab station reaches the tracker (R20, R41). -/
theorem State.Hears.traceFrame {addr : Address} {p : List Byte} (h : s.Hears addr) (hcab : addr.sender = s.cfg.cabStation)
    (hp : p.length ≤ 14) : exec (.traceFrame addr p) s = .next (s.afterHearing.takeTrace p) := by
  have hroute : s.afterHearing.route .trace addr p = s.afterHearing.takeTrace p :=
    if_pos (beq_iff_eq.2 (show addr.sender = s.afterHearing.cfg.cabStation from hcab))
  exact congrArg _ ((h.receive (k := .trace) rfl hp).trans hroute)

/-- A TRACE of index `i` and bytes `b0`, `b1` of curvature, out of BACKUP and of reverse (R41, R42). -/
theorem State.takeTrace_of_open (hpath : s.hasPath = true) (hm : s.ladder.mode ≠ .backup) (hr : s.demand.rev = false)
    (i : Half) (b0 b1 : Byte) : s.takeTrace (bytesOf 2 i.toNat ++ [b0, b1]) =
      s.traceArrival i (clampInt (-1000) 1000 (asSigned 16 (256 * b0.toNat + b1.toNat))) := by
  have hindex : BitVec.ofNat 16 (pairAt (bytesOf 2 i.toNat ++ [b0, b1]) 0) = i := by
    apply BitVec.eq_of_toNat_eq
    have hi := i.isLt
    simp only [bytesOf, pairAt, byteAt, List.nil_append, List.cons_append, List.getD_cons_zero, List.getD_cons_succ,
      BitVec.toNat_ofNat]
    omega
  have hkappa : pairAt (bytesOf 2 i.toNat ++ [b0, b1]) 2 = 256 * b0.toNat + b1.toNat := by
    simp [bytesOf, pairAt, byteAt]
  have hlength : (bytesOf 2 i.toNat ++ [b0, b1]).length = 4 := by simp [bytesOf]
  simp [State.takeTrace, hpath, State.traceBarred_of_open hm hr, hindex, hkappa, hlength]

/-- In BACKUP nothing joins an empty path (R42). -/
def State.PathAway (s : State) : Prop := s.ladder.mode = .backup ∧ s.tracker.queue = []

theorem State.takeTrace_pathAway (h : s.PathAway) (p : List Byte) : (s.takeTrace p).PathAway := by
  obtain ⟨hm, hq⟩ := h
  have hbarred : s.traceBarred = true := s.traceBarred_iff.2 (.inl hm)
  simp only [State.takeTrace, hbarred, if_true]
  (repeat' split) <;> exact ⟨hm, hq⟩

theorem State.takeDemand_pathAway (h : s.PathAway) (p : List Byte) : (s.takeDemand p).PathAway := by
  obtain ⟨hm, hq⟩ := h
  unfold State.takeDemand
  split
  · exact ⟨hm, hq⟩
  · refine ⟨by simpa using hm, ?_⟩
    rw [State.acceptDemand, State.freshened_eq]
    split
    · simp [hq]
    · simpa using hq

theorem State.route_pathAway (h : s.PathAway) (k : Kind) (a : Address) (p : List Byte) : (s.route k a p).PathAway := by
  cases k with
  | state | alert | serviceReq | serviceReply => simpa [State.route, State.PathAway] using h
  | demand =>
    simp only [State.route]
    split
    · exact State.takeDemand_pathAway h p
    · exact h
  | trace =>
    simp only [State.route]
    split
    · exact State.takeTrace_pathAway h p
    · exact h

theorem State.receive_pathAway (h : s.PathAway) (head : RawHead) (p : List Byte) : (s.receive head p).PathAway :=
  State.receive_keeps (P := State.PathAway) (fun _ _ hu => hu) (fun _ hu => hu)
    (fun _ hu => by simpa [State.PathAway] using hu) (fun _ k a p hu => State.route_pathAway hu k a p) h head p

/-- Settles O28: the clearing of R49, then reception in BACKUP and the first arrival out of it. -/
theorem trackerPeriodEmptiesQueueInBackup : Obligations.TrackerPeriodEmptiesQueueInBackup := by
  refine fun s => ⟨fun hm hq hpath => ?_, fun h => ?_, fun addr p hm hq => ?_,
    fun addr i b0 b1 hhears hcab hpath hm hr hq => ?_⟩
  · have hclear : s.trackerPeriod = s.clearPath := if_pos (by simp [hm, hq])
    refine congrArg Host.Outcome.next (hclear.trans (s.clearPath_eq.trans ?_))
    simp only [hpath, if_true]
  · have hkeep : s.trackerPeriod = s := if_neg (by simpa [imp_iff_not_or] using h)
    exact congrArg Host.Outcome.next hkeep
  · have haway : s.PathAway := ⟨hm, hq⟩
    exact ⟨_, rfl, (State.receive_pathAway haway _ p).2⟩
  · have hlength : (bytesOf 2 i.toNat ++ [b0, b1]).length ≤ 14 := by simp [bytesOf]
    have harrival : (s.afterHearing.takeTrace (bytesOf 2 i.toNat ++ [b0, b1])).tracker.queue =
        [⟨i, clampInt (-1000) 1000 (asSigned 16 (256 * b0.toNat + b1.toNat)), false⟩] := by
      rw [State.takeTrace_of_open (s := s.afterHearing) hpath hm hr,
        State.traceArrival_of_empty (s := s.afterHearing) hq, (State.pathGrows_queue _ _).1, prune_singleton]
    exact ⟨_, _, hhears.traceFrame hcab hlength, harrival, rfl⟩

end Sys2Proof.Machine
end

section
/-! PROOFS. The repeats of the five alerts, each by its guard, and what becomes of an ALERT offered to the queue. -/

namespace Sys2Proof.Machine

variable {s : State}

/-- A command guarded by `due`. -/
theorem next_of_due {t : State} {due : Bool} (h : due = true) :
    (Host.Outcome.next (if due then t else s) : Host.Outcome State Fault Refusal) = .next t :=
  congrArg Host.Outcome.next (if_pos h)

theorem next_of_not_due {t : State} {due : Bool} (h : ¬due = true) :
    (Host.Outcome.next (if due then t else s) : Host.Outcome State Fault Refusal) = .next s :=
  congrArg Host.Outcome.next (if_neg h)

/-! ### The guards (R56, R70, R108, R139) -/

theorem State.jackknifeRepeatDue_iff (s : State) :
    s.jackknifeRepeatDue = true ↔ s.joint.jackknife = true ∧ s.joint.jackTimer = 0 := by simp [State.jackknifeRepeatDue]

theorem State.limitRepeatDue_iff (s : State) :
    s.limitRepeatDue = true ↔ s.joint.limit = true ∧ s.joint.limitTimer = 0 := by simp [State.limitRepeatDue]

theorem State.pinnedRepeatDue_iff (s : State) :
    s.pinnedRepeatDue = true ↔ s.steering.state = .pinned ∧ s.steering.alertTimer = 0 := by simp [State.pinnedRepeatDue]

theorem State.degradedRepeatDue_iff (s : State) (side : Side) : s.degradedRepeatDue side = true ↔
    (atSide s.slip.wheels side).degraded = true ∧ (atSide s.slip.wheels side).alertTimer = 0 := by
  simp [State.degradedRepeatDue]

theorem State.breachRepeatDue_iff {slot : Slot} {e : Entrance} (h : s.entrance slot = some e) :
    s.breachRepeatDue slot = true ↔ e.state = .breach ∧ 50 < s.ownSpeed ∧ e.alerting = true ∧ e.alertTimer = 0 := by
  simp [State.breachRepeatDue, h, State.breachAlertHolds, Entrance.isBreach, and_assoc]

/-- The alert of an entrance that goes on (R139). -/
theorem State.breachAlert_of_due {slot : Slot} {e : Entrance} (h : s.entrance slot = some e) (hb : e.state = .breach)
    (hv : 50 < s.ownSpeed) (ha : e.alerting = true) (ht : e.alertTimer = 0) : s.breachAlert slot =
      (s.putEntrance slot { e with alertTimer := 20 }).offerAlert .entranceBreach (s.globalNumber slot) := by
  simp [State.breachAlert, h, State.breachAlertHolds, Entrance.isBreach, hb, hv, ha, ht]

/-! ### An ALERT offered (R156, R160) -/

/-- The entry of an ALERT. -/
def alertEntry (code : AlertCode) (q : Nat) : Entry :=
  newEntry .alert 8 [BitVec.ofNat 8 (alertNumber code), BitVec.ofNat 8 q]

theorem State.offerAlert_eq (s : State) (code : AlertCode) (q : Nat) : s.offerAlert code q = s.offer (alertEntry code q) := rfl

theorem State.offerAlert_blocks (s : State) (code : AlertCode) (q : Nat) : s.offerAlert code q = { s with
    link := (s.offerAlert code q).link
    service := (s.offerAlert code q).service } := by
  apply State.eq_of_blocks <;> simp

theorem State.offerAlert_of_listenOnly (h : s.link.listenOnly = true) (code : AlertCode) (q : Nat) :
    s.offerAlert code q = s := by
  simp [State.offerAlert, State.offer, Link.offer_of_listenOnly h]

theorem Link.offer_alertEntry {l : Link} (hl : l.listenOnly = false) (code : AlertCode) (q : Nat) :
    l.offer (alertEntry code q) = l.offerSingle (alertEntry code q) := by
  simp [Link.offer, hl, alertEntry, newEntry]

/-- With no such alert in the queue, and room, the ALERT joins at the tail. -/
theorem State.offerAlert_of_room {code : AlertCode} {q : Nat} (hl : s.link.listenOnly = false)
    (hroom : s.link.queue.length < 8) (hnew : ∀ x ∈ s.link.queue, (alertEntry code q).twin x = false) :
    s.offerAlert code q = { s with
      link := Link.updateShed { s.link with queue := s.link.queue ++ [alertEntry code q] } } := by
  have hoffer : s.link.offer (alertEntry code q) =
      (Link.updateShed { s.link with queue := s.link.queue ++ [alertEntry code q] }, ⟨true, false⟩) := by
    rw [Link.offer_alertEntry hl, Link.offerSingle_of_no_twin hnew, Link.append_of_room hroom]
  rw [State.offerAlert_eq, State.offer, hoffer]
  rfl

/-- Settles O31: each repeat by its guard, and the alert's place in the queue. -/
theorem alertsAreRepeatedAndQueued : Obligations.AlertsAreRepeatedAndQueued := by
  refine ⟨fun s => ⟨fun hj ht => ?_, fun hl ht => ?_, fun hp ht => ?_, fun side hd ht => ?_,
    fun slot e he hb hv ha ht => ?_, fun h => ?_, fun h => ?_, fun h => ?_, fun side h => ?_, fun slot he => ?_, fun slot e he h => ?_⟩,
    fun s code q => ⟨rfl, s.offerAlert_blocks code q, fun hl => State.offerAlert_of_listenOnly hl code q,
      fun hl hroom hnew => ?_⟩⟩
  · exact next_of_due (s.jackknifeRepeatDue_iff.2 ⟨hj, ht⟩)
  · exact next_of_due (s.limitRepeatDue_iff.2 ⟨hl, ht⟩)
  · exact next_of_due (s.pinnedRepeatDue_iff.2 ⟨hp, ht⟩)
  · exact next_of_due ((s.degradedRepeatDue_iff side).2 ⟨hd, ht⟩)
  · rw [← State.breachAlert_of_due he hb hv ha ht]
    exact next_of_due ((State.breachRepeatDue_iff he).2 ⟨hb, hv, ha, ht⟩)
  · exact next_of_not_due (by rw [s.jackknifeRepeatDue_iff]; grind)
  · exact next_of_not_due (by rw [s.limitRepeatDue_iff]; grind)
  · exact next_of_not_due (by rw [s.pinnedRepeatDue_iff]; grind)
  · exact next_of_not_due (by rw [s.degradedRepeatDue_iff]; grind)
  · exact next_of_not_due (by simp [State.breachRepeatDue, he])
  · exact next_of_not_due (by rw [State.breachRepeatDue_iff he]; grind)
  · refine State.offerAlert_of_room hl hroom fun x hx => ?_
    simpa [Entry.twin, alertEntry, newEntry] using hnew x hx

end Sys2Proof.Machine
end

section
/-! PROOFS. The steering period: what each stage leaves of the steering record, and the statements on the period and
on the tracking fault. -/

namespace Sys2Proof.Machine

variable {s t u : State}

/-! ### Entry to PINNED (R56) -/

/-- What becomes of an offered frame depends on the queue and on the reply slot alone. -/
theorem State.offer_congr (hl : t.link = s.link) (hv : t.service = s.service) (e : Entry) :
    (t.offer e).link = (s.offer e).link ∧ (t.offer e).service = (s.offer e).service := by
  simp only [State.offer, State.replyLeft, State.offerReply, hl, hv]
  (repeat' split) <;> simp_all

theorem State.offerAlert_congr (hl : t.link = s.link) (hv : t.service = s.service) (code : AlertCode) (q : Nat) :
    (t.offerAlert code q).link = (s.offerAlert code q).link ∧
    (t.offerAlert code q).service = (s.offerAlert code q).service :=
  State.offer_congr hl hv _

@[simp] theorem State.enterPinned_steering (s : State) (cause : PinCause) : (s.enterPinned cause).steering =
    { s.steering with state := .pinned, cause, dp := 0, tracking := 0, alertTimer := 20 } := by
  simp [State.enterPinned]

/-- An entry to PINNED from a state with the link and the reply slot of `s`. -/
theorem State.enterPinned_pinsAxle (hl : u.link = s.link) (hv : u.service = s.service) (cause : PinCause) :
    s.PinsAxle (u.enterPinned cause) cause cause.qualifier where
  record := by simp
  alert := by
    unfold State.enterPinned
    exact State.offerAlert_congr (by exact hl) (by exact hv) _ _

/-- The rest of the period writes other fields. -/
theorem State.PinsAxle.congr {cause : PinCause} {q : Nat} (h : s.PinsAxle u cause q)
    (hstate : t.steering.state = u.steering.state) (hcause : t.steering.cause = u.steering.cause)
    (hdp : t.steering.dp = u.steering.dp) (htracking : t.steering.tracking = u.steering.tracking)
    (htimer : t.steering.alertTimer = u.steering.alertTimer) (hl : t.link = u.link) (hv : t.service = u.service) :
    s.PinsAxle t cause q where
  record := by rw [hstate, hcause, hdp, htracking, htimer]; exact h.record
  alert := by rw [hl, hv]; exact h.alert

/-! ### Stages 1 and 2 (R53 to R55) -/

/-- Stage 1 takes the measured angle, and leaves the command to stage 4. -/
theorem State.steerStage1_steering (s : State) (v : Microvolt) :
    (s.steerStage1 v).steering.measured = steerReading v ∧
    (s.steerStage1 v).steering.command = s.steering.command := by
  unfold State.steerStage1
  rcases hr : steerReading v with - | m <;> simp only <;> (repeat' split) <;> simp [State.finish, State.raise]

/-- Stage 2 writes the state and the path steer angle alone. -/
theorem State.steerStage2_eq (s : State) : s.steerStage2 = { s with steering := { s.steering with
    state := s.steerStage2.steering.state
    dp := s.steerStage2.steering.dp } } := by
  unfold State.steerStage2 State.computeDp
  (repeat' split) <;> rfl

theorem State.steerStage2_of_pinned (h : s.steering.state = .pinned) : s.steerStage2 = s := by
  simp [State.steerStage2, h]

theorem State.mayFollow_iff (s : State) : s.mayFollow = true ↔
    s.pathReady = true ∧ s.demand.rev = false ∧ s.ladder.mode ≠ .start ∧ s.ladder.mode ≠ .backup := by
  simp [State.mayFollow, and_assoc]

theorem State.mustHome_iff (s : State) : s.mustHome = true ↔
    s.demand.rev = true ∨ s.tracker.broken = true ∨ s.pathReady = false ∨ s.ladder.mode = .backup := by
  simp [State.mustHome, or_assoc]

/-- The path steer angle on entry to FOLLOW (R57). -/
theorem State.computeDp_of_due {e : Sample} (hr : s.pathReady = true)
    (h : dueEntry s.tracker.queue s.cfg.axleOffset = some e) :
    s.computeDp = { s with steering := { s.steering with dp := pathAngle e.kappa s.cfg.lever s.cfg.maxLock } } := by
  simp [State.computeDp, hr, h]

/-- Stage 2 goes along the edges of R53. -/
theorem State.steerStage2_follows (s : State) :
    s.FollowsPath s.steerStage2.steering.state s.steerStage2.steering.dp where
  enters hs hr hv h1 h2 := by
    have hmay : s.mayFollow = true := s.mayFollow_iff.2 ⟨hr, hv, h1, h2⟩
    have hstage : s.steerStage2 = State.computeDp { s with steering := { s.steering with state := .follow } } := by
      simp [State.steerStage2, hs, hmay]
    rw [hstage]
    refine ⟨?_, fun e he => ?_⟩
    · unfold State.computeDp
      (repeat' split) <;> rfl
    · rw [State.computeDp_of_due (s := { s with steering := { s.steering with state := .follow } }) hr he]
      rfl
  centred hs h := by
    have hmay : ¬s.mayFollow = true := by rw [s.mayFollow_iff]; grind
    simp [State.steerStage2, hs, hmay]
  leaves hs h := by
    have hmust : s.mustHome = true := s.mustHome_iff.2 h
    simp [State.steerStage2, hs, hmust]
  holds hs hv hb hr hm := by
    have hmust : ¬s.mustHome = true := by rw [s.mustHome_iff]; grind
    simp [State.steerStage2, hs, hmust]

theorem State.steerStage2_not_pinned (h : s.steering.state ≠ .pinned) : s.steerStage2.steering.state ≠ .pinned := by
  unfold State.steerStage2 State.computeDp
  (repeat' split) <;> simp_all

/-! ### Stage 5 (R60) -/

theorem State.steerStage5_of_pinned (h : s.steering.state = .pinned) : s.steerStage5 = s := by
  simp [State.steerStage5, h]

/-- The command off the measured angle by more than 300 cd. -/
theorem Steering.offTrack_eq {r : Steering} {m : Int} (h : r.measured = some m) :
    r.offTrack = decide (300 < (r.command - m).natAbs) := by
  simp [Steering.offTrack, h]

section
variable (hp : s.steering.state ≠ .pinned) {m : Int} (hm : s.steering.measured = some m)
include hp hm

theorem State.steerStage5_of_near (h : s.sweeping = true ∨ (s.steering.command - m).natAbs ≤ 300) :
    s.steerStage5 = { s with steering := { s.steering with tracking := 0 } } := by
  by_cases hs : s.sweeping = true
  · simp [State.steerStage5, hp, hs]
  · have hnear : ¬300 < (s.steering.command - m).natAbs := by
      rw [Nat.not_lt]
      exact h.resolve_left hs
    simp [State.steerStage5, hp, hs, State.countTracking, Steering.offTrack_eq hm, hnear]

variable (hs : s.sweeping = false) (hfar : 300 < (s.steering.command - m).natAbs)
include hs hfar

theorem State.steerStage5_of_short (h : s.steering.tracking < 19) :
    s.steerStage5 = { s with steering := { s.steering with tracking := s.steering.tracking + 1 } } := by
  simp [State.steerStage5, hp, hs, State.countTracking, Steering.offTrack_eq hm, hfar,
    show s.steering.tracking + 1 < 20 by omega]

theorem State.steerStage5_of_full (h : 19 ≤ s.steering.tracking) :
    s.steerStage5 = (s.raise .steerTrack 0).enterPinned .tracking := by
  simp [State.steerStage5, hp, hs, State.countTracking, Steering.offTrack_eq hm, hfar,
    show ¬s.steering.tracking + 1 < 20 by omega]

end

/-- Short of the tracking fault stage 5 writes its counter alone. -/
theorem State.steerStage5_of_unfaulted (hp : s.steering.state ≠ .pinned) {m : Int} (hm : s.steering.measured = some m)
    (h : s.sweeping = true ∨ (s.steering.command - m).natAbs ≤ 300 ∨ s.steering.tracking < 19) :
    ∃ n, s.steerStage5 = { s with steering := { s.steering with tracking := n } } := by
  by_cases hnear : s.sweeping = true ∨ (s.steering.command - m).natAbs ≤ 300
  · exact ⟨_, State.steerStage5_of_near hp hm hnear⟩
  · rw [not_or, Bool.not_eq_true, Nat.not_le] at hnear
    obtain ⟨hs, hfar⟩ := hnear
    have hshort : s.steering.tracking < 19 := by
      rcases h with h | h | h
      · simp [hs] at h
      · omega
      · exact h
    exact ⟨_, State.steerStage5_of_short hp hm hs hfar hshort⟩

/-- Stage 5 leaves the figures of the stages before it. -/
theorem State.steerStage5_figures (s : State) :
    s.steerStage5.steering.measured = s.steering.measured ∧ s.steerStage5.steering.fade = s.steering.fade ∧
    s.steerStage5.steering.target = s.steering.target ∧ s.steerStage5.steering.command = s.steering.command := by
  unfold State.steerStage5 State.countTracking
  (repeat' split) <;> simp [State.raise]

/-! ### The period -/

/-- The state after stages 1 to 4. -/
def State.steeringRamped (s : State) (v : Microvolt) : State := (s.steerStage1 v).steerStage2.steerStage3.steerStage4

theorem State.steeringPeriod_eq (h : s.hasSteering = true) (v : Microvolt) :
    s.steeringPeriod v = (s.steeringRamped v).steerStage5.steerOutputs := if_pos h

/-- The state that stage 1 leaves with reading `m` while the coil is good. -/
def State.angleRead (s : State) (m : Int) : State :=
  State.finish { s with steering := { s.steering with measured := some m } } .steerTrack 1

theorem State.coilChecked_of_good (h : s.steering.state = .pinned ∨ s.coilFailed 9 = false) : s.coilChecked = s := by
  rcases h with h | h <;> simp [State.coilChecked, h]

theorem State.coilChecked_of_failed (hp : s.steering.state ≠ .pinned) (h : s.coilFailed 9 = true) :
    s.coilChecked = s.enterPinned .coil := by simp [State.coilChecked, hp, h]

/-- What every period does: the fade, the rate limit and the outputs that go with the state. -/
structure State.SteersBy (s t : State) (v : Microvolt) : Prop where
  blocks : t = { s with
    steering := t.steering
    link := t.link
    faults := t.faults
    service := t.service }
  measured : t.steering.measured = steerReading v
  fade : (t.steering.fade : Int) = clampInt 0 1000
    ((((s.cfg.fadeEnd : Int) - s.ownSpeed) * 1000).tdiv ((s.cfg.fadeEnd : Int) - s.cfg.fadeStart))
  command : t.steering.command = rampTo s.steering.command t.steering.target s.cfg.rateLimit
  lock : t.steering.lockOn = true ↔ t.steering.state ≠ .pinned ∧ s.sweeping = false
  coil : s.sweeping = false → (t.coilOn 9 = true ↔ t.steering.lockOn = true)
  positive : t.steering.actP = true ↔ t.steering.state ≠ .pinned ∧ s.sweeping = false ∧
    ∃ m, steerReading v = some m ∧ m + 10 < t.steering.command
  negative : t.steering.actN = true ↔ t.steering.state ≠ .pinned ∧ s.sweeping = false ∧
    ∃ m, steerReading v = some m ∧ t.steering.command < m - 10
  seen : t.steering.dpSeen = t.steering.dp ∧ t.steering.trackingSeen = t.steering.tracking

theorem fadeFactor_eq (v fadeStart fadeEnd : Nat) : (fadeFactor v fadeStart fadeEnd : Int) =
    clampInt 0 1000 ((((fadeEnd : Int) - v) * 1000).tdiv ((fadeEnd : Int) - fadeStart)) :=
  Int.toNat_of_nonneg (clampInt_bounds (by decide) _).1

/-- The outputs by the state they are driven in (R61). -/
theorem State.steerOutputs_iff (s : State) :
    (s.steerOutputs.steering.lockOn = true ↔ s.steering.state ≠ .pinned ∧ s.sweeping = false) ∧
    (s.steerOutputs.steering.actP = true ↔ s.steering.state ≠ .pinned ∧ s.sweeping = false ∧
      ∃ m, s.steering.measured = some m ∧ m + 10 < s.steering.command) ∧
    (s.steerOutputs.steering.actN = true ↔ s.steering.state ≠ .pinned ∧ s.sweeping = false ∧
      ∃ m, s.steering.measured = some m ∧ s.steering.command < m - 10) := by
  rcases hm : s.steering.measured with - | m <;> simp [State.steerOutputs, hm, and_assoc]

theorem State.steeringRamped_figures (s : State) (v : Microvolt) :
    (s.steeringRamped v).steering.measured = steerReading v ∧
    (s.steeringRamped v).steering.fade = fadeFactor s.ownSpeed s.cfg.fadeStart s.cfg.fadeEnd ∧
    (s.steeringRamped v).steering.command =
      rampTo s.steering.command (s.steeringRamped v).steering.target s.cfg.rateLimit := by
  obtain ⟨hmeasured, hcommand⟩ := s.steerStage1_steering v
  have hkeeps : (s.steerStage1 v).steerStage2.steering.measured = steerReading v ∧
      (s.steerStage1 v).steerStage2.steering.command = s.steering.command := by
    rw [State.steerStage2_eq]
    exact ⟨hmeasured, hcommand⟩
  have hcfg : (s.steerStage1 v).steerStage2.cfg = s.cfg := State.cfg_congr (by simp)
  have hspeed : (s.steerStage1 v).steerStage2.ownSpeed = s.ownSpeed := by simp [State.ownSpeed]
  refine ⟨hkeeps.1, ?_, ?_⟩
  · rw [← hcfg, ← hspeed]
    rfl
  · rw [← hcfg, ← hkeeps.2]
    rfl

theorem State.steeringRamped_target (s : State) (v : Microvolt) : (s.steeringRamped v).steering.target =
    if (s.steeringRamped v).steering.state = .follow
      then ((s.steeringRamped v).steering.dp * (s.steeringRamped v).steering.fade).tdiv 1000 else 0 :=
  if_congr beq_iff_eq rfl rfl

@[simp] theorem State.steeringRamped_frame (s : State) (v : Microvolt) :
    (s.steeringRamped v).startUp = s.startUp ∧ (s.steeringRamped v).link = (s.steerStage1 v).link ∧
    (s.steeringRamped v).faults = (s.steerStage1 v).faults ∧
    (s.steeringRamped v).service = (s.steerStage1 v).service := by
  simp [State.steeringRamped, State.steerStage3, State.steerStage4]

theorem State.steeringPeriod_steers (h : s.hasSteering = true) (v : Microvolt) :
    s.SteersBy (s.steeringPeriod v) v := by
  obtain ⟨hmeasured, hfade, hcommand⟩ := s.steeringRamped_figures v
  obtain ⟨hmeasured', hfade', htarget', hcommand'⟩ := (s.steeringRamped v).steerStage5_figures
  have hstart : (s.steeringRamped v).steerStage5.startUp = s.startUp := by simp
  have hsweep : (s.steeringRamped v).steerStage5.sweeping = s.sweeping := State.sweeping_congr hstart
  obtain ⟨hlock, hpositive, hnegative⟩ := (s.steeringRamped v).steerStage5.steerOutputs_iff
  rw [hsweep] at hlock hpositive hnegative
  rw [hmeasured', hmeasured] at hpositive hnegative
  refine ⟨by apply State.eq_of_blocks <;> simp, ?_, ?_, ?_, ?_, fun hs => ?_, ?_, ?_, ?_⟩
  all_goals rw [State.steeringPeriod_eq h]
  · exact hmeasured'.trans hmeasured
  · rw [← fadeFactor_eq, ← hfade, ← hfade']
    rfl
  · exact hcommand'.trans (hcommand.trans (by rw [← htarget']; rfl))
  · exact hlock
  · have hout : ¬(s.steeringRamped v).steerStage5.steerOutputs.sweeping = true := ne_true_of_eq_false (hsweep.trans hs)
    exact iff_of_eq (congrArg (· = true) (if_neg hout))
  · exact hpositive
  · exact hnegative
  · exact ⟨rfl, rfl⟩

/-! ### A period that leaves the axle PINNED from stage 1 on (R54 to R56) -/

/-- The fault list after the angle's reading. -/
def State.angleFaults (s : State) (v : Microvolt) : FaultList :=
  if (steerReading v).isSome then s.faults.finish .steerTrack 1 else s.faults.raise .steerTrack 1

theorem State.angleFaults_of_some {v : Microvolt} {m : Int} (h : steerReading v = some m) (s : State) :
    s.angleFaults v = s.faults.finish .steerTrack 1 := by simp [State.angleFaults, h]

theorem State.angleFaults_of_none {v : Microvolt} (h : steerReading v = none) (s : State) :
    s.angleFaults v = s.faults.raise .steerTrack 1 := by simp [State.angleFaults, h]

@[simp] theorem State.coilChecked_faults (s : State) : s.coilChecked.faults = s.faults := by
  unfold State.coilChecked
  split <;> simp

theorem State.steerStage1_of_pinned (h : s.coilChecked.steering.state = .pinned) (v : Microvolt) :
    s.steerStage1 v = { s.coilChecked with
      steering := { s.coilChecked.steering with measured := steerReading v }
      faults := s.angleFaults v } := by
  rcases hr : steerReading v with - | m
  · rw [State.steerStage1_of_none hr, State.angleFaults_of_none hr, ← State.coilChecked_faults]
    exact if_neg (by simp [h])
  · rw [State.steerStage1_of_some hr, State.angleFaults_of_some hr, ← State.coilChecked_faults]
    rfl

theorem State.steerStage1_of_lost (hp : s.steering.state ≠ .pinned) (hc : s.coilFailed 9 = false) {v : Microvolt}
    (h : steerReading v = none) : s.steerStage1 v = s.angleLost.enterPinned .sensor := by
  rw [State.steerStage1_of_none h, State.coilChecked_of_good (.inr hc)]
  exact if_pos (by simp [hp])

/-- Out of PINNED, with a good coil, the angle is taken. -/
theorem State.steerStage1_of_read (hc : s.coilFailed 9 = false) {v : Microvolt} {m : Int} (h : steerReading v = some m) :
    s.steerStage1 v = s.angleRead m := by
  rw [State.steerStage1_of_some h, State.coilChecked_of_good (.inr hc)]
  rfl

/-- What a state `u` reached in PINNED hands to the state `t` at the period's end, target 0. -/
structure State.StaysPinned (u t : State) : Prop where
  state : t.steering.state = .pinned
  cause : t.steering.cause = u.steering.cause
  dp : t.steering.dp = u.steering.dp
  tracking : t.steering.tracking = u.steering.tracking
  timer : t.steering.alertTimer = u.steering.alertTimer
  target : t.steering.target = 0
  link : t.link = u.link
  service : t.service = u.service
  faults : t.faults = u.faults

section
variable (hs : s.hasSteering = true)
include hs

theorem State.steeringPeriod_of_pinned {v : Microvolt} (h : (s.steerStage1 v).steering.state = .pinned) :
    (s.steerStage1 v).StaysPinned (s.steeringPeriod v) := by
  have hramped : s.steeringRamped v = (s.steerStage1 v).steerStage3.steerStage4 := by
    rw [State.steeringRamped, State.steerStage2_of_pinned h]
  have hheld := State.steerStage5_of_pinned (s := (s.steerStage1 v).steerStage3.steerStage4) h
  rw [State.steeringPeriod_eq hs, hramped, hheld]
  refine ⟨h, rfl, rfl, rfl, rfl, ?_, rfl, rfl, rfl⟩
  exact if_neg (by simp [h])

theorem State.PinsAxle.of_stays {v : Microvolt} {cause : PinCause} {q : Nat} (h : s.PinsAxle (s.steerStage1 v) cause q) :
    s.PinsAxle (s.steeringPeriod v) cause q ∧ (s.steeringPeriod v).steering.target = 0 := by
  obtain ⟨hpinned, -⟩ := h.record
  have hstays := State.steeringPeriod_of_pinned hs hpinned
  exact ⟨h.congr (hstays.state.trans hpinned.symm) hstays.cause hstays.dp hstays.tracking hstays.timer hstays.link
    hstays.service, hstays.target⟩

/-- A pinned axle stays as it was. -/
theorem State.steeringPeriod_stays (hp : s.steering.state = .pinned) (v : Microvolt) :
    { s with faults := s.angleFaults v }.StaysPinned (s.steeringPeriod v) := by
  have hchecked := State.coilChecked_of_good (.inl hp)
  have hstage := State.steerStage1_of_pinned (by rw [hchecked]; exact hp) v
  rw [hchecked] at hstage
  have hstays := State.steeringPeriod_of_pinned hs (v := v) (by rw [hstage]; exact hp)
  rw [hstage] at hstays
  exact ⟨hstays.state, hstays.cause, hstays.dp, hstays.tracking, hstays.timer, hstays.target, hstays.link, hstays.service,
    hstays.faults⟩

section
variable (hp : s.steering.state ≠ .pinned)
include hp

theorem State.steeringPeriod_of_coil (hc : s.coilFailed 9 = true) (v : Microvolt) :
    (s.PinsAxle (s.steeringPeriod v) .coil 2 ∧ (s.steeringPeriod v).steering.target = 0) ∧
      (s.steeringPeriod v).faults = s.angleFaults v := by
  have hchecked := State.coilChecked_of_failed hp hc
  have hstage := State.steerStage1_of_pinned (by rw [hchecked]; simp) v
  rw [hchecked] at hstage
  have hentry : s.PinsAxle (s.enterPinned .coil) .coil 2 := State.enterPinned_pinsAxle rfl rfl .coil
  have hpins : s.PinsAxle (s.steerStage1 v) .coil 2 := by
    rw [hstage]
    exact hentry.congr rfl rfl rfl rfl rfl rfl rfl
  refine ⟨State.PinsAxle.of_stays hs hpins, ?_⟩
  rw [(State.steeringPeriod_of_pinned hs hpins.record.1).faults, hstage]

theorem State.steeringPeriod_of_lost (hc : s.coilFailed 9 = false) {v : Microvolt} (h : steerReading v = none) :
    (s.PinsAxle (s.steeringPeriod v) .sensor 1 ∧ (s.steeringPeriod v).steering.target = 0) ∧
      (s.steeringPeriod v).faults = s.angleFaults v := by
  have hchecked := State.coilChecked_of_good (.inr hc)
  have hstage := State.steerStage1_of_lost hp hc h
  have hpins : s.PinsAxle (s.steerStage1 v) .sensor 1 := by
    rw [hstage]
    exact State.enterPinned_pinsAxle (by simp [State.angleLost, hchecked, State.raise])
      (by simp [State.angleLost, hchecked, State.raise]) .sensor
  refine ⟨State.PinsAxle.of_stays hs hpins, ?_⟩
  rw [(State.steeringPeriod_of_pinned hs hpins.record.1).faults, hstage, State.angleFaults_of_none h]
  simp [State.angleLost, hchecked, State.raise]

end
end

/-! ### A period that reads the angle (R53, R58, R60) -/

/-- The state and the path steer angle that stage 2 chooses with the angle read, and what stages 1 to 4 leave. -/
theorem State.steeringRamped_of_read (hp : s.steering.state ≠ .pinned) (hc : s.coilFailed 9 = false)
    {v : Microvolt} {m : Int} (h : steerReading v = some m) :
    s.FollowsPath (s.steeringRamped v).steering.state (s.steeringRamped v).steering.dp ∧
    (s.steeringRamped v).steering.state ≠ .pinned ∧
    (s.steeringRamped v).steering.tracking = s.steering.tracking ∧
    (s.steeringRamped v).steering.cause = s.steering.cause ∧
    (s.steeringRamped v).steering.alertTimer = s.steering.alertTimer ∧
    (s.steeringRamped v).link = s.link ∧ (s.steeringRamped v).service = s.service ∧
    (s.steeringRamped v).faults = s.faults.finish .steerTrack 1 := by
  have hstage : s.steeringRamped v = (s.angleRead m).steerStage2.steerStage3.steerStage4 := by
    rw [State.steeringRamped, State.steerStage1_of_read hc h]
  have hfollows := (s.angleRead m).steerStage2_follows
  have hstate : (s.angleRead m).steerStage2.steering.state ≠ .pinned := State.steerStage2_not_pinned hp
  have hkeeps := (s.angleRead m).steerStage2_eq
  rw [hstage]
  refine ⟨⟨hfollows.enters, hfollows.centred, hfollows.leaves, hfollows.holds⟩, hstate, ?_⟩
  rw [hkeeps]
  exact ⟨rfl, rfl, rfl, rfl, rfl, rfl⟩

/-- Settles O29: what every period does, then the axle PINNED or pinned at stage 1, then the period that reads. -/
theorem steeringPeriodRampsCommand : Obligations.SteeringPeriodRampsCommand := by
  refine ⟨steerReads, fun v s hs => ⟨s.steeringPeriod v, rfl, ?_⟩⟩
  obtain ⟨hblocks, hmeasured, hfade, hcommand, hlock, hcoil, hpositive, hnegative, hdp, htracking⟩ :=
    State.steeringPeriod_steers hs v
  refine ⟨hblocks, hmeasured, hfade, hcommand, hlock, hcoil, hpositive, hnegative, hdp, htracking, fun hnone => ?_,
    fun hp m hm => ?_, fun hp => ?_, fun hp hc => (State.steeringPeriod_of_coil hs hp hc v).1,
    fun hp hc hnone => (State.steeringPeriod_of_lost hs hp hc hnone).1, fun hp hc m hm => ?_⟩
  · rw [← State.angleFaults_of_none hnone]
    by_cases hp : s.steering.state = .pinned
    · exact (State.steeringPeriod_stays hs hp v).faults
    by_cases hc : s.coilFailed 9 = true
    · exact (State.steeringPeriod_of_coil hs hp hc v).2
    · exact (State.steeringPeriod_of_lost hs hp (Bool.eq_false_iff.2 hc) hnone).2
  · rw [← State.angleFaults_of_some hm]
    by_cases hpinned : s.steering.state = .pinned
    · exact (State.steeringPeriod_stays hs hpinned v).faults
    · exact (State.steeringPeriod_of_coil hs hpinned (hp.resolve_left hpinned) v).2
  · have hstays := State.steeringPeriod_stays hs hp v
    exact ⟨hstays.state, hstays.cause, hstays.target, hstays.dp, hstays.tracking, hstays.timer, hstays.link,
      hstays.service⟩
  · obtain ⟨hfollows, hstate, hcount, hcause, htimer, hlink, hservice, hfaults⟩ := State.steeringRamped_of_read hp hc hm
    obtain ⟨-, hfade', htarget', hcommand'⟩ := (s.steeringRamped v).steerStage5_figures
    have htaken : (s.steeringRamped v).steering.measured = some m := (s.steeringRamped_figures v).1.trans hm
    have hsweep : (s.steeringRamped v).sweeping = s.sweeping := State.sweeping_congr (by simp)
    have hramped := s.steeringRamped_target v
    have hsteered : (s.steeringRamped v).steerStage5.steerOutputs.steering.command =
        (s.steeringRamped v).steering.command := hcommand'
    rw [State.steeringPeriod_eq hs, hsteered, ← hsweep, ← hcount]
    refine ⟨_, _, hfollows, ?_, fun h => ?_, fun h => ?_, fun hsw hfar hshort => ?_, fun hsw hfar hfull => ?_⟩
    · rw [← hfade', ← htarget'] at hramped
      exact hramped
    · obtain ⟨n, hn⟩ := State.steerStage5_of_unfaulted hstate htaken h
      rw [hn]
      exact ⟨rfl, rfl, hcause, htimer, hlink, hservice, hfaults⟩
    · rw [State.steerStage5_of_near hstate htaken h]
      rfl
    · rw [State.steerStage5_of_short hstate htaken hsw hfar hshort]
      rfl
    · rw [State.steerStage5_of_full hstate htaken hsw hfar hfull, ← hfaults]
      have hpins : s.PinsAxle (((s.steeringRamped v).raise .steerTrack 0).enterPinned .tracking) .tracking 0 :=
        State.enterPinned_pinsAxle (u := (s.steeringRamped v).raise .steerTrack 0) hlink hservice .tracking
      exact ⟨hpins.congr rfl rfl rfl rfl rfl rfl rfl, by simp [State.steerOutputs, State.raise]⟩

/-! ### The tracking fault (R56, R60) -/

/-- The outputs in PINNED are off. -/
theorem State.steerOutputs_of_pinned (h : s.steering.state = .pinned) : s.steerOutputs = { s with steering :=
    { s.steering with
      dpSeen := s.steering.dp
      trackingSeen := s.steering.tracking
      lockOn := false
      actP := false
      actN := false } } := by
  simp [State.steerOutputs, h]

/-- Settles O30: the count is due, and reaching 20 it pins the axle. -/
theorem trackingFaultPinsTheAxle : Obligations.TrackingFaultPinsTheAxle := by
  intro s m hs hp hsweep hm hfar hcount
  have hoff : s.steering.offTrack = true := (Steering.offTrack_eq hm).trans (decide_eq_true hfar)
  have hdue : s.trackingDue = true := by simp [State.trackingDue, hs, hp, hsweep, hoff, hcount]
  have hfault : s.countTracking = (s.raise .steerTrack 0).enterPinned .tracking := by
    simp [State.countTracking, hoff, hcount]
  have hout := State.steerOutputs_of_pinned (s := (s.raise .steerTrack 0).enterPinned .tracking) (by simp)
  have hpins (f : FaultList) : State.PinsAxle { s with faults := f }
      ((s.raise .steerTrack 0).enterPinned .tracking) .tracking 0 :=
    State.enterPinned_pinsAxle (s := { s with faults := f }) (u := s.raise .steerTrack 0) rfl rfl .tracking
  refine ⟨_, next_of_due hdue, ?_, ?_⟩
  · rw [hfault, hout]
    apply State.eq_of_blocks <;> simp [State.raise]
  · rw [hfault, hout]
    exact (hpins _).alert.1.symm

end Sys2Proof.Machine
end

section
/-! PROOFS. A TRACE by its gap: what the arrival does to the path, to the path steer angle and to the joint monitor. -/

namespace Sys2Proof.Machine

variable {s t u : State}

/-! ### One comparison of the joint monitor (R66, R67) -/

section
variable {m : Nat} (hj : s.joint.jackknife = false)
include hj

theorem State.compareJoint_of_below (h : m ≤ s.cfg.jackThreshold) :
    s.compareJoint m = { s with joint := { s.joint with lastMismatch := some m, mismatch := 0 } } := by
  rw [State.compareJoint, if_neg (ne_true_of_eq_false hj)]
  exact if_neg (Nat.not_lt.2 h)

theorem State.compareJoint_of_above (h : s.cfg.jackThreshold < m) (hn : s.joint.mismatch < 4) :
    s.compareJoint m =
      { s with joint := { s.joint with lastMismatch := some m, mismatch := s.joint.mismatch + 1 } } := by
  rw [State.compareJoint, if_neg (ne_true_of_eq_false hj)]
  exact (if_pos h).trans (if_pos (show s.joint.mismatch + 1 < 5 by omega))

theorem State.compareJoint_of_fifth (h : s.cfg.jackThreshold < m) (hn : 4 ≤ s.joint.mismatch) :
    s.compareJoint m = State.setJackknife { s with joint := { s.joint with lastMismatch := some m } } := by
  rw [State.compareJoint, if_neg (ne_true_of_eq_false hj)]
  exact (if_pos h).trans (if_neg (show ¬s.joint.mismatch + 1 < 5 by omega))

end

section
variable {m : Nat} (hj : s.joint.jackknife = true)
include hj

theorem State.compareJoint_of_apart (h : s.cfg.jackThreshold / 2 ≤ m) :
    s.compareJoint m = { s with joint := { s.joint with lastMismatch := some m, clear := 0 } } := by
  rw [State.compareJoint, if_pos hj]
  exact if_neg (Nat.not_lt.2 h)

theorem State.compareJoint_of_close (h : m < s.cfg.jackThreshold / 2) (hn : s.joint.clear < 19) :
    s.compareJoint m = { s with joint := { s.joint with lastMismatch := some m, clear := s.joint.clear + 1 } } := by
  rw [State.compareJoint, if_pos hj]
  exact (if_pos h).trans (if_pos (show s.joint.clear + 1 < 20 by omega))

theorem State.compareJoint_of_twentieth (h : m < s.cfg.jackThreshold / 2) (hn : 19 ≤ s.joint.clear) :
    s.compareJoint m = State.clearJackknife { s with joint := { s.joint with lastMismatch := some m } } := by
  rw [State.compareJoint, if_pos hj]
  exact (if_pos h).trans (if_neg (show ¬s.joint.clear + 1 < 20 by omega))

end

theorem State.setJackknife_joint (s : State) : s.setJackknife.joint =
    { s.joint with jackknife := true, mismatch := 0, clear := 0, jackTimer := 20 } := by
  simp [State.setJackknife]

theorem State.compareJoint_compared (s : State) (m : Nat) :
    Joint.ComparedAs s.joint (s.compareJoint m).joint s.cfg.jackThreshold m where
  below hj h := by rw [State.compareJoint_of_below hj h]
  above hj h hn := by rw [State.compareJoint_of_above hj h hn]
  set hj h hn := by rw [State.compareJoint_of_fifth hj h hn, State.setJackknife_joint]
  apart hj h := by rw [State.compareJoint_of_apart hj h]
  close hj h hn := by rw [State.compareJoint_of_close hj h hn]
  cleared hj h hn := by
    rw [State.compareJoint_of_twentieth hj h hn]
    rfl

/-- The comparison that sets JACKKNIFE is the only one that offers an alert. -/
theorem State.compareJoint_alerts (s : State) (m : Nat) :
    (s.joint.jackknife = false ∧ s.compareJoint m = State.setJackknife { s with joint :=
      { s.joint with lastMismatch := some m } }) ∨
    ((s.joint.jackknife = true ∨ (s.compareJoint m).joint.jackknife = false) ∧
      (s.compareJoint m).link = s.link ∧ (s.compareJoint m).service = s.service) := by
  rcases hj : s.joint.jackknife with - | -
  · rcases Nat.lt_or_ge s.cfg.jackThreshold m with h | h
    · rcases Nat.lt_or_ge s.joint.mismatch 4 with hn | hn
      · rw [State.compareJoint_of_above hj h hn]
        exact .inr ⟨.inr hj, rfl, rfl⟩
      · exact .inl ⟨rfl, State.compareJoint_of_fifth hj h hn⟩
    · rw [State.compareJoint_of_below hj h]
      exact .inr ⟨.inr hj, rfl, rfl⟩
  · refine .inr ⟨.inl rfl, ?_⟩
    rcases Nat.lt_or_ge m (s.cfg.jackThreshold / 2) with h | h
    · rcases Nat.lt_or_ge s.joint.clear 19 with hn | hn
      · rw [State.compareJoint_of_close hj h hn]
        exact ⟨rfl, rfl⟩
      · rw [State.compareJoint_of_twentieth hj h hn]
        exact ⟨rfl, rfl⟩
    · rw [State.compareJoint_of_apart hj h]
      exact ⟨rfl, rfl⟩

/-! ### The joint monitor at an arrival (R65, R66) -/

/-- The state with the expected angle recorded. -/
def State.expecting (s : State) (phi : Int) : State := { s with joint := { s.joint with phiE := some phi } }

/-- The comparison, when there is an angle to compare. -/
def State.hearsAngle (s : State) (phi : Int) : State :=
  match s.joint.angle.value with
  | some m => if s.joint.angle.valid then (s.expecting phi).compareJoint (m - phi).natAbs else s.expecting phi
  | none => s.expecting phi

theorem State.jointArrival_of_due {e : Sample} (hj : s.hasJoint = true) (hr : s.pathReady = true)
    (he : dueEntry s.tracker.queue s.cfg.jointOffset = some e) :
    s.jointArrival = s.hearsAngle (expectedAngle e.kappa s.cfg.jointLever) := by
  simp only [State.jointArrival, hj, hr, he]
  rfl

theorem State.jointArrival_of_idle (h : s.hasJoint = false ∨ s.pathReady = false) : s.jointArrival = s := by
  rcases h with h | h <;> simp [State.jointArrival, h]

/-- The first JACKKNIFE alert in a state `u` that has the configuration and the reply slot of `s` and its link after the
frame. -/
theorem State.setJackknife_alerts (hc : u.cfg = s.cfg) (hl : u.link = s.heardLink) (hv : u.service = s.service) :
    u.setJackknife.link = ({ s with link := s.heardLink }.offerAlert .jackknife s.jointNumber).link ∧
    u.setJackknife.service = ({ s with link := s.heardLink }.offerAlert .jackknife s.jointNumber).service := by
  have hnumber : u.jointNumber = s.jointNumber := by simp only [State.jointNumber, hc]
  rw [State.setJackknife, hnumber]
  exact State.offerAlert_congr (s := { s with link := s.heardLink }) (by exact hl) (by exact hv) _ _

/-- The joint monitor hears of an angle in a state `u` that has the joint record of `s` too. -/
theorem State.hearsAngle_hears (hj : u.joint = s.joint) (hc : u.cfg = s.cfg) (hl : u.link = s.heardLink)
    (hv : u.service = s.service) (phi : Int) : s.JointHears (u.hearsAngle phi) phi := by
  have hexpects : (u.expecting phi).joint = { s.joint with phiE := some phi } := by rw [State.expecting, hj]
  by_cases hcmp : s.joint.angle.valid = true ∧ ∃ m, s.joint.angle.value = some m
  · obtain ⟨hvalid, m, hm⟩ := hcmp
    have hhears : u.hearsAngle phi = (u.expecting phi).compareJoint (m - phi).natAbs := by
      simp [State.hearsAngle, hj, hm, hvalid]
    have hcompared := (u.expecting phi).compareJoint_compared (m - phi).natAbs
    have hjack : (u.expecting phi).joint.jackknife = s.joint.jackknife := by rw [hexpects]
    rw [hexpects, show (u.expecting phi).cfg = s.cfg from hc] at hcompared
    rw [hhears]
    rcases (u.expecting phi).compareJoint_alerts (m - phi).natAbs with ⟨hclear, hset⟩ | ⟨hflag, hlink, hservice⟩
    · have hflag : ((u.expecting phi).compareJoint (m - phi).natAbs).joint.jackknife = true := by
        rw [hset, State.setJackknife_joint]
      refine ⟨fun m' _ hm' => Option.some.inj (hm.symm.trans hm') ▸ hcompared, fun h => ?_, fun _ _ => ?_, fun h => ?_⟩
      · simp [hvalid, hm] at h
      · rw [hset]
        exact State.setJackknife_alerts hc hl hv
      · rw [← hjack, hclear, hflag] at h
        simp at h
    · refine ⟨fun m' _ hm' => Option.some.inj (hm.symm.trans hm') ▸ hcompared, fun h => ?_, fun h h' => ?_, fun _ =>
        ⟨hlink.trans hl, hservice.trans hv⟩⟩
      · simp [hvalid, hm] at h
      · rw [hjack, h, h'] at hflag
        simp at hflag
  · have hhears : u.hearsAngle phi = u.expecting phi := by
      unfold State.hearsAngle
      split
      · next m hm => exact if_neg fun hvalid => hcmp ⟨hj ▸ hvalid, m, hj ▸ hm⟩
      · rfl
    rw [hhears]
    refine ⟨fun m hvalid hm => absurd ⟨hvalid, m, hm⟩ hcmp, fun _ => hexpects, fun h h' => ?_, fun _ => ⟨hl, hv⟩⟩
    rw [hexpects] at h'
    exact absurd (h.symm.trans h') (by decide)

/-! ### The path grows (R44, R47, R57) -/

theorem State.steerArrival_of_follow (hs : s.hasSteering = true) (hf : s.steering.state = .follow) :
    s.steerArrival = s.computeDp := if_pos (by simp [hs, hf])

theorem State.steerArrival_of_other (h : s.hasSteering = false ∨ s.steering.state ≠ .follow) : s.steerArrival = s := by
  rcases h with h | h <;> simp [State.steerArrival, h]

theorem State.steerArrival_eq (s : State) : ∃ r, s.steerArrival = { s with steering := r } := by
  unfold State.steerArrival State.computeDp
  (repeat' split) <;> exact ⟨_, rfl⟩

theorem State.steerArrival_of_short (h : s.pathReady = false) : s.steerArrival = s := by
  simp [State.steerArrival, State.computeDp, h]

/-- A queue long enough readies the path, which is then whole (R47). -/
theorem State.pathPruned_of_ready {q : List Sample} (hp : s.hasPath = true)
    (h : s.depthNeeded ≤ (prune s.greaterOffset q).length) : s.pathPruned q = { s with
      tracker := { s.tracker with queue := prune s.greaterOffset q, rejectionRun := 0, broken := false }
      faults := (s.faults.finish .traceBroken 0).finish .traceBroken 1 } := by
  have hready : State.pathReady { s with
      tracker := { s.tracker with queue := prune s.greaterOffset q, rejectionRun := 0 } } = true :=
    Bool.and_eq_true_iff.2 ⟨hp, decide_eq_true h⟩
  exact if_pos hready

theorem State.pathPruned_of_short {q : List Sample} (h : (prune s.greaterOffset q).length < s.depthNeeded) :
    s.pathPruned q = { s with
      tracker := { s.tracker with queue := prune s.greaterOffset q, rejectionRun := 0 } } := by
  have hready : ¬State.pathReady { s with
      tracker := { s.tracker with queue := prune s.greaterOffset q, rejectionRun := 0 } } = true := fun hr =>
    Nat.not_le.2 h (of_decide_eq_true (Bool.and_eq_true_iff.1 hr).2)
  exact if_neg hready

/-- The offsets of the axle and of the joint lie within the depth. -/
theorem State.axleOffset_lt (h : s.hasSteering = true) : s.cfg.axleOffset < s.depthNeeded := by
  simp only [State.depthNeeded, State.greaterOffset, h, if_true]
  omega

theorem State.jointOffset_lt (h : s.hasJoint = true) : s.cfg.jointOffset < s.depthNeeded := by
  simp only [State.depthNeeded, State.greaterOffset, h, if_true]
  omega

section
variable {i : Half} (hready : s.pathReady = true) (hq : s.tracker.queue.IsChain Sample.Precedes)
  (hi : newestIndex s.tracker.queue = some i)
include hready hq hi

/-- On a ready path an offset within the depth has its due entry (R47). -/
theorem State.dueEntry_of_ready {offset : Nat} (h : offset < s.depthNeeded) : ∃ e ∈ s.tracker.queue,
    e.index = i - BitVec.ofNat 16 offset ∧ dueEntry s.tracker.queue offset = some e :=
  dueEntry_exists hq hi (h.trans_le (of_decide_eq_true (Bool.and_eq_true_iff.1 hready).2))

theorem State.steerArrival_of_ready (hs : s.hasSteering = true) (hf : s.steering.state = .follow) :
    ∃ e ∈ s.tracker.queue, e.index = i - BitVec.ofNat 16 s.cfg.axleOffset ∧
      s.steerArrival.steering = { s.steering with dp := pathAngle e.kappa s.cfg.lever s.cfg.maxLock } := by
  obtain ⟨e, hmem, hindex, hdue⟩ := State.dueEntry_of_ready hready hq hi (State.axleOffset_lt hs)
  refine ⟨e, hmem, hindex, ?_⟩
  rw [State.steerArrival_of_follow hs hf, State.computeDp_of_due hready hdue]

theorem State.jointArrival_of_ready (hj : s.hasJoint = true) :
    ∃ e ∈ s.tracker.queue, e.index = i - BitVec.ofNat 16 s.cfg.jointOffset ∧
      s.jointArrival = s.hearsAngle (expectedAngle e.kappa s.cfg.jointLever) := by
  obtain ⟨e, hmem, hindex, hdue⟩ := State.dueEntry_of_ready hready hq hi (State.jointOffset_lt hj)
  exact ⟨e, hmem, hindex, State.jointArrival_of_due hj hready hdue⟩

end

/-- The queue once it has grown by `added`: its newest D_need entries (R44, R47). -/
def State.grownQueue (s : State) (added : List Sample) : List Sample :=
  (s.tracker.queue ++ added).drop ((s.tracker.queue ++ added).length - min 256 s.depthNeeded)

/-- A queue that has grown by `added`, cut to its newest 256, is pruned to that. -/
theorem State.prune_grown {added : List Sample} (h : PathQueue ((s.tracker.queue ++ added).rtake 256)) :
    prune s.greaterOffset ((s.tracker.queue ++ added).rtake 256) = s.grownQueue added := by
  rw [prune_eq h, rtake_rtake]
  rfl

/-- The path after an arrival that leaves it too short for the due entries. -/
def State.grownShort (s : State) (filled : Nat) (added : List Sample) : State :=
  { s with
    link := s.heardLink
    tracker := { s.tracker with filled, queue := s.grownQueue added, rejectionRun := 0 } }

/-- The path after an arrival that makes it ready, before δp and φe are computed. -/
def State.grownReady (s : State) (filled : Nat) (added : List Sample) : State :=
  { s with
    link := s.heardLink
    tracker := { s.tracker with filled, queue := s.grownQueue added, rejectionRun := 0, broken := false }
    faults := (s.faults.finish .traceBroken 0).finish .traceBroken 1 }

/-- The arrival taken: the frame is counted, and so are the `filled` entries (R44). -/
def State.grownBy (s : State) (filled : Nat) (added : List Sample) : State :=
  State.pathGrows { s with link := s.heardLink, tracker := { s.tracker with filled } }
    ((s.tracker.queue ++ added).rtake 256)

/-- A path still too short leaves the other blocks alone. -/
theorem State.grownShort_grew {added : List Sample} (filled : Nat)
    (h : (s.grownQueue added).length < s.depthNeeded) (i : Half) :
    s.PathGrew (s.grownShort filled added) i added := by
  have hlong (hd : s.depthNeeded ≤ (s.grownQueue added).length) : False := Nat.not_le.2 h hd
  exact ⟨rfl, fun hd => (hlong hd).elim, fun _ => ⟨rfl, rfl, rfl, rfl, rfl, rfl⟩, fun hd => (hlong hd).elim,
    fun _ => rfl, fun hd => (hlong hd).elim, fun _ => ⟨rfl, rfl, rfl⟩⟩

section
variable {added : List Sample} (hq : PathQueue ((s.tracker.queue ++ added).rtake 256)) (filled : Nat)
include hq

theorem State.grownBy_of_short (h : (s.grownQueue added).length < s.depthNeeded) :
    s.grownBy filled added = s.grownShort filled added := by
  have hidle : (s.grownShort filled added).pathReady = false :=
    Bool.and_eq_false_iff.2 (.inr (decide_eq_false (Nat.not_le.2 h)))
  rw [← State.prune_grown hq] at h
  have hpruned := State.pathPruned_of_short (s := { s with link := s.heardLink, tracker := { s.tracker with filled } }) h
  have hshort : s.grownShort filled added = { s with
      link := s.heardLink
      tracker := { s.tracker with
        filled, queue := prune s.greaterOffset ((s.tracker.queue ++ added).rtake 256), rejectionRun := 0 } } := by
    rw [State.prune_grown hq]
    rfl
  rw [State.grownBy, State.pathGrows_eq, hpruned.trans hshort.symm, State.steerArrival_of_short hidle,
    State.jointArrival_of_idle (.inr hidle)]

theorem State.grownBy_of_ready (hp : s.hasPath = true) (h : s.depthNeeded ≤ (s.grownQueue added).length) :
    s.grownBy filled added = (s.grownReady filled added).steerArrival.jointArrival := by
  rw [← State.prune_grown hq] at h
  have hpruned := State.pathPruned_of_ready
    (s := { s with link := s.heardLink, tracker := { s.tracker with filled } }) hp h
  rw [State.grownBy, State.pathGrows_eq, hpruned, State.grownReady, ← State.prune_grown hq]
  rfl

theorem State.grownQueue_suffix : s.grownQueue added <:+ (s.tracker.queue ++ added).rtake 256 := by
  rw [← State.prune_grown hq]
  exact prune_suffix _ _

/-- On a ready path the due entries give δp and φe (R57, R65). -/
theorem State.grownReady_grew (hp : s.hasPath = true) (h : s.depthNeeded ≤ (s.grownQueue added).length) {i : Half}
    (hi : newestIndex (s.grownQueue added) = some i) :
    s.PathGrew (s.grownReady filled added).steerArrival.jointArrival i added := by
  have hready : (s.grownReady filled added).pathReady = true := Bool.and_eq_true_iff.2 ⟨hp, decide_eq_true h⟩
  have hchain : (s.grownQueue added).IsChain Sample.Precedes := hq.consecutive.suffix (State.grownQueue_suffix hq)
  have htracker : (s.grownReady filled added).steerArrival.jointArrival.tracker =
      (s.grownReady filled added).tracker := by simp
  have hfaults : (s.grownReady filled added).steerArrival.jointArrival.faults =
      (s.grownReady filled added).faults := by simp
  have hsteering : (s.grownReady filled added).steerArrival.jointArrival.steering =
      (s.grownReady filled added).steerArrival.steering := by simp
  obtain ⟨r, hsteered⟩ := (s.grownReady filled added).steerArrival_eq
  refine ⟨?_, fun _ => ⟨?_, hfaults⟩, fun hd => ?_, fun _ hs hf => ?_, fun hs => ?_, fun _ hj => ?_, fun hj => ?_⟩
  · rw [htracker]
    rfl
  · rw [htracker]
    rfl
  · rw [htracker] at hd
    exact absurd h (Nat.not_le.2 hd)
  · rw [htracker, hsteering]
    exact State.steerArrival_of_ready (s := s.grownReady filled added) hready hchain hi hs hf
  · rw [hsteering, State.steerArrival_of_other (s := s.grownReady filled added) hs]
    rfl
  · rw [htracker, hsteered]
    obtain ⟨e, hmem, hindex, harrival⟩ := State.jointArrival_of_ready
      (s := { s.grownReady filled added with steering := r }) hready hchain hi hj
    have hhears : s.JointHears (State.hearsAngle { s.grownReady filled added with steering := r }
        (expectedAngle e.kappa s.cfg.jointLever)) (expectedAngle e.kappa s.cfg.jointLever) :=
      State.hearsAngle_hears (s := s) (u := { s.grownReady filled added with steering := r }) rfl rfl rfl rfl _
    rw [harrival]
    exact ⟨e, hmem, hindex, hhears⟩
  · rw [hsteered, State.jointArrival_of_idle (s := { s.grownReady filled added with steering := r }) (.inl hj)]
    exact ⟨rfl, rfl, rfl⟩

theorem State.grownBy_grew (hp : s.hasPath = true) {i : Half}
    (hi : newestIndex ((s.tracker.queue ++ added).rtake 256) = some i) :
    s.PathGrew (s.grownBy filled added) i added ∧ (s.grownBy filled added).tracker.filled = filled := by
  rcases Nat.lt_or_ge (s.grownQueue added).length s.depthNeeded with h | h
  · rw [State.grownBy_of_short hq filled h]
    exact ⟨State.grownShort_grew filled h i, rfl⟩
  · have hne : s.grownQueue added ≠ [] := by
      intro hnil
      simp [hnil, State.depthNeeded] at h
    have hnewest := (newestIndex_of_suffix (State.grownQueue_suffix hq) hne).trans hi
    rw [State.grownBy_of_ready hq filled hp h]
    exact ⟨State.grownReady_grew hq filled hp h hnewest, by simp [State.grownReady]⟩

end

/-! ### The arrivals by their gaps (R43 to R46) -/

theorem newestIndex_rtake_concat (q : List Sample) (e : Sample) : newestIndex ((q ++ [e]).rtake 256) = some e.index := by
  have hne : (q ++ [e]).rtake 256 ≠ [] := by
    rw [List.rtake, Ne, List.drop_eq_nil_iff, List.length_append, List.length_singleton]
    omega
  exact (newestIndex_of_suffix (List.drop_suffix _ _) hne).trans (newestIndex_concat q e)

/-- The entries of an arrival of gap `g` join a path queue as R44 has it. -/
theorem State.arrival_grew (hp : s.hasPath = true) (hok : s.tracker.PathOk) {tail : Sample}
    (ht : s.tracker.queue.getLast? = some tail) {i : Half} {kappa : Int} (hk : -1000 ≤ kappa ∧ kappa ≤ 1000) {g : Nat}
    (hg : 1 ≤ g) (hgap : gapOf i tail.index = g) (filled : Nat) :
    s.PathGrew (s.grownBy filled (addedEntries tail g ⟨i, kappa, false⟩)) i (addedEntries tail g ⟨i, kappa, false⟩) ∧
      (s.grownBy filled (addedEntries tail g ⟨i, kappa, false⟩)).tracker.filled = filled := by
  obtain ⟨hqueue, -⟩ := s.tracker.pathOk_iff.1 hok
  have hgrown := hqueue.grown (added_chain hqueue.consecutive ht hg hgap (e := ⟨i, kappa, false⟩))
    (added_curvature hqueue ht hk)
  refine State.grownBy_grew hgrown filled hp ?_
  rw [addedEntries, ← List.append_assoc, newestIndex_rtake_concat]

/-- The path grown by an arrival of gap `g`, `g - 1` entries filled in before it. -/
theorem State.pathGrows_added (hok : s.tracker.PathOk) (tail : Sample) (g filled : Nat) (e : Sample) :
    State.pathGrows { s with link := s.heardLink, tracker := { s.tracker with filled } }
      (pushSample (fillGap s.tracker.queue tail.index tail.kappa (g - 1)) e) =
    s.grownBy filled (addedEntries tail g e) := by
  rw [push_fillGap_eq hok.depth]
  rfl

theorem State.traceArrival_grown (hok : s.tracker.PathOk) {tail : Sample} (ht : s.tracker.queue.getLast? = some tail)
    {i : Half} (h2 : 2 ≤ gapOf i tail.index) (h8 : gapOf i tail.index ≤ 8) (kappa : Int) :
    s.afterHearing.traceArrival i kappa = s.grownBy (bumpBy ((gapOf i tail.index).toNat - 1) s.tracker.filled)
      (addedEntries tail (gapOf i tail.index).toNat ⟨i, kappa, false⟩) := by
  rw [State.traceArrival_of_gap (s := s.afterHearing) ht h2 h8, ← State.pathGrows_added hok]
  rfl

theorem State.traceArrival_next (hok : s.tracker.PathOk) {tail : Sample} (ht : s.tracker.queue.getLast? = some tail)
    {i : Half} (h : gapOf i tail.index = 1) (kappa : Int) : s.afterHearing.traceArrival i kappa =
      s.grownBy s.tracker.filled (addedEntries tail 1 ⟨i, kappa, false⟩) := by
  rw [State.traceArrival_of_next (s := s.afterHearing) ht h, ← State.pathGrows_added hok]
  rfl

/-- An arrival on an empty path makes a path of its own (R43). -/
theorem State.arrival_grew_of_empty (hp : s.hasPath = true) (hq : s.tracker.queue = []) (i : Half) {kappa : Int}
    (hk : -1000 ≤ kappa ∧ kappa ≤ 1000) : s.PathGrew (s.afterHearing.traceArrival i kappa) i [⟨i, kappa, false⟩] ∧
      (s.afterHearing.traceArrival i kappa).tracker.filled = s.tracker.filled := by
  have hone (e : Sample) : (s.tracker.queue ++ [e]).rtake 256 = [e] := by
    rw [hq]
    exact rtake_of_length_le (by simp)
  have hgrown : s.afterHearing.traceArrival i kappa = s.grownBy s.tracker.filled [⟨i, kappa, false⟩] := by
    rw [State.traceArrival_of_empty (s := s.afterHearing) hq, State.grownBy, hone]
    rfl
  have hqueue : PathQueue ((s.tracker.queue ++ ([⟨i, kappa, false⟩] : List Sample)).rtake 256) := by
    rw [hone]
    exact .singleton hk
  rw [hgrown]
  exact State.grownBy_grew hqueue _ hp (newestIndex_rtake_concat _ _)

theorem State.olderArrival_of_few (h : s.tracker.rejectionRun < 7) (i : Half) (kappa : Int) :
    s.olderArrival i kappa = { s with tracker := { s.tracker with
      older := bump s.tracker.older
      rejectionRun := s.tracker.rejectionRun + 1 } } :=
  if_pos (show s.tracker.rejectionRun + 1 < 8 by omega)

/-! ### The frames set aside (R41, R42) -/

theorem State.takeTrace_of_no_path (h : s.hasPath = false) (p : List Byte) : s.takeTrace p = s := by
  simp [State.takeTrace, h]

theorem State.takeTrace_of_length (h : s.hasPath = true) {p : List Byte} (hp : p.length ≠ 4) :
    s.takeTrace p = { s with tracker := { s.tracker with malformed := bump s.tracker.malformed } } := by
  simp [State.takeTrace, h, hp]

theorem State.takeTrace_of_barred (h : s.hasPath = true) {p : List Byte} (hp : p.length = 4)
    (hb : s.ladder.mode = .backup ∨ s.demand.rev = true) :
    s.takeTrace p = { s with tracker := { s.tracker with discarded := bump s.tracker.discarded } } := by
  simp [State.takeTrace, h, hp, s.traceBarred_iff.2 hb]

/-- A TRACE of the cab station that is taken by its gap. -/
theorem State.Hears.traceTaken {addr : Address} (h : s.Hears addr) (hcab : addr.sender = s.cfg.cabStation)
    (hpath : s.hasPath = true) (hm : s.ladder.mode ≠ .backup) (hr : s.demand.rev = false) (i : Half) (b0 b1 : Byte) :
    exec (.traceFrame addr (bytesOf 2 i.toNat ++ [b0, b1])) s = .next (s.afterHearing.traceArrival i
      (clampInt (-1000) 1000 (asSigned 16 (256 * b0.toNat + b1.toNat)))) := by
  rw [h.traceFrame hcab (by simp [bytesOf]), State.takeTrace_of_open (s := s.afterHearing) hpath hm hr]

/-- Settles O19: the frames set aside, then the arrivals by their gaps. -/
theorem traceFrameActsOnItsGap : Obligations.TraceFrameActsOnItsGap := by
  refine ⟨fun n d hd => roundHalfAway_roundsTo n hd, fun addr s h hcab => ⟨fun p hlen => ⟨fun hp => ?_, fun hp hne => ?_,
    fun hp hfour hbarred => ?_⟩, fun i b0 b1 kappa hp hm hr hok hkappa => ?_⟩⟩
  · rw [h.traceFrame hcab hlen, State.takeTrace_of_no_path (s := s.afterHearing) hp]
    rfl
  · rw [h.traceFrame hcab hlen, State.takeTrace_of_length (s := s.afterHearing) hp hne]
    rfl
  · rw [h.traceFrame hcab hlen, State.takeTrace_of_barred (s := s.afterHearing) hp hfour hbarred]
    rfl
  · have hk : -1000 ≤ kappa ∧ kappa ≤ 1000 := by
      rw [hkappa]
      exact clampInt_bounds (by decide) _
    have hexec := h.traceTaken hcab hp hm hr i b0 b1
    rw [← hkappa] at hexec
    refine ⟨_, hexec, by apply State.eq_of_blocks <;> simp [State.afterHearing], rfl, fun hq =>
      State.arrival_grew_of_empty hp hq i hk, fun tail ht => ⟨fun hg => ?_, fun h2 h8 => ?_, fun h8 => ?_,
      fun h0 hrun => ?_, fun h0 hrun => ?_⟩⟩
    · rw [State.traceArrival_next hok ht hg]
      exact State.arrival_grew hp hok ht hk le_rfl hg _
    · rw [State.traceArrival_grown hok ht h2 h8]
      exact State.arrival_grew hp hok ht hk (by omega) (by omega) _
    · rw [State.traceArrival_of_break (s := s.afterHearing) ht h8, State.breakPath_eq]
      rfl
    · rw [State.traceArrival_of_older (s := s.afterHearing) ht h0, State.olderArrival_of_few (s := s.afterHearing) hrun]
      rfl
    · rw [State.traceArrival_of_older (s := s.afterHearing) ht h0, State.olderArrival_of_run (s := s.afterHearing) hrun,
        State.breakPath_eq]
      rfl

end Sys2Proof.Machine
end

section
/-! PROOFS. The joint period by its reading, and the comparisons that set and clear JACKKNIFE as commands of their own. -/

namespace Sys2Proof.Machine

variable {s : State}

/-! ### A sensor's reading, by its standing (R64) -/

section
variable {α : Type} {q : Sensor α} (x : α)

theorem Sensor.read_of_valid (hv : q.valid = true) : q.read (some x) = ({ q with value := some x }, .quiet) :=
  if_pos hv

theorem Sensor.read_of_counting (hv : q.valid = false) (hr : q.recovery < 9) :
    q.read (some x) = ({ q with recovery := q.recovery + 1 }, .quiet) :=
  (if_neg (ne_true_of_eq_false hv)).trans (if_pos (show q.recovery + 1 < 10 by omega))

theorem Sensor.read_of_recovering (hv : q.valid = false) (hr : 9 ≤ q.recovery) :
    q.read (some x) = ({ valid := true, recovery := 10, value := some x }, .ended) :=
  (if_neg (ne_true_of_eq_false hv)).trans (if_neg (show ¬q.recovery + 1 < 10 by omega))

end

/-! ### The joint's reading (R63, R64, R69) -/

theorem State.jointNumber_of_named {j : Fin 3} (h : s.cfg.joint = some j) : s.jointNumber = j.val := by
  simp only [State.jointNumber, h]

theorem State.takeJointReading_of_out_of_range {v : Microvolt} (h : jointReading v = none) :
    s.takeJointReading v = { s with
      joint := { s.joint with angle := { valid := false, recovery := 0, value := none } }.sensorLost
      faults := s.faults.raise .jointSensor s.jointNumber } := by
  simp only [State.takeJointReading, h, Sensor.read]
  rfl

section
variable {v : Microvolt} {a : Int} (ha : jointReading v = some a)
include ha

theorem State.takeJointReading_of_valid (hv : s.joint.angle.valid = true) :
    s.takeJointReading v =
      State.testLimit { s with joint := { s.joint with angle := { s.joint.angle with value := some a } } } a := by
  simp only [State.takeJointReading, ha, Sensor.read_of_valid a hv, angleOf_of_jointReading ha]
  exact if_pos hv

theorem State.takeJointReading_of_counting (hv : s.joint.angle.valid = false) (hr : s.joint.angle.recovery < 9) :
    s.takeJointReading v =
      { s with joint := { s.joint with angle := { s.joint.angle with recovery := s.joint.angle.recovery + 1 } } } := by
  simp only [State.takeJointReading, ha, Sensor.read_of_counting a hv hr]
  exact if_neg (ne_true_of_eq_false hv)

theorem State.takeJointReading_of_recovering (hv : s.joint.angle.valid = false) (hr : 9 ≤ s.joint.angle.recovery) :
    s.takeJointReading v = State.testLimit { s with
      joint := { s.joint with angle := { valid := true, recovery := 10, value := some a } }
      faults := s.faults.finish .jointSensor s.jointNumber } a := by
  simp only [State.takeJointReading, ha, Sensor.read_of_recovering a hv hr, angleOf_of_jointReading ha]
  rfl

end

/-- Settles O32: by the reading and the sensor's standing, the period is a loss, a count, or a test against LIMIT. -/
theorem jointPeriodReadsAndTestsLimit : Obligations.JointPeriodReadsAndTestsLimit := by
  refine ⟨jointReads, fun v s hj => ⟨s.takeJointReading v, congrArg Host.Outcome.next (if_pos hj),
    fun _ => State.jointNumber_of_named, fun h => ?_, fun a ha hv => ?_, fun a ha hv hr => ?_, fun a ha hv hr => ?_⟩⟩
  · exact State.takeJointReading_of_out_of_range h
  · rw [State.takeJointReading_of_valid ha hv]
    exact State.testLimit_tested _ a
  · exact State.takeJointReading_of_counting ha hv hr
  · rw [State.takeJointReading_of_recovering ha hv hr]
    exact State.testLimit_tested _ a

/-! ### The counts that reach their ends (R66, R67) -/

section
variable {m : Nat} (hj : s.hasJoint = true) (hv : s.joint.angle.valid = true) (hm : s.joint.lastMismatch = some m)
include hj hv hm

theorem State.jackknifeDue_iff : s.jackknifeDue = true ↔
    s.joint.jackknife = false ∧ 4 ≤ s.joint.mismatch ∧ s.cfg.jackThreshold < m := by
  simp [State.jackknifeDue, hj, hv, hm, and_assoc]

theorem State.jackknifeClearDue_iff : s.jackknifeClearDue = true ↔
    s.joint.jackknife = true ∧ 19 ≤ s.joint.clear ∧ m < s.cfg.jackThreshold / 2 := by
  simp [State.jackknifeClearDue, hj, hv, hm, and_assoc]

end

/-- Settles O33: at the counts 4 and 19 the commands' guards hold. -/
theorem jackknifeIsSetAndCleared : Obligations.JackknifeIsSetAndCleared := fun _ _ hj hv hm =>
  ⟨fun hclear hcount habove => congrArg Host.Outcome.next <| if_pos <|
      (State.jackknifeDue_iff hj hv hm).2 ⟨hclear, hcount.ge, habove⟩,
    fun hset hcount hbelow => congrArg Host.Outcome.next <| if_pos <|
      (State.jackknifeClearDue_iff hj hv hm).2 ⟨hset, hcount.ge, hbelow⟩⟩

end Sys2Proof.Machine
end

section
/-! PROOFS. Wheel slip control: the reference speed, one wheel through a slip period, the lock count with its alert, and
the counts that reach their ends as commands of their own. -/

namespace Sys2Proof.Machine

variable {s u : State} {w : Wheel} {x p : Nat}

/-! ### The reference speed (R99) -/

theorem Peer.freshRecord_eq_some {q : Peer} {r : PeerRecord} :
    q.freshRecord = some r ↔ q.freshness = .fresh ∧ q.record = some r := by
  cases h : q.freshness <;> simp [Peer.freshRecord, h]

/-- The speeds of the FRESH peers. -/
theorem State.mem_peerSpeeds (s : State) (v : Nat) : v ∈ s.peerNumbers.filterMap s.peerSpeed ↔
    ∃ n r, s.isPeer n = true ∧ (s.peer n).freshness = .fresh ∧ (s.peer n).record = some r ∧ r.speed = v := by
  simp only [List.mem_filterMap, State.mem_peerNumbers, State.peerSpeed, Option.map_eq_some_iff,
    Peer.freshRecord_eq_some, ← exists_and_left, and_assoc]

/-- The greatest of the FRESH peers' speeds and 0. -/
theorem State.peerTopSpeed_greatest (s : State) : s.peerTopSpeed ∈ 0 :: s.peerNumbers.filterMap s.peerSpeed ∧
    ∀ v ∈ 0 :: s.peerNumbers.filterMap s.peerSpeed, v ≤ s.peerTopSpeed :=
  List.max?_eq_some_iff.1 List.max?_cons'

theorem State.le_peerTopSpeed {n : Fin 8} {r : PeerRecord} (hn : s.isPeer n = true)
    (hf : (s.peer n).freshness = .fresh) (hr : (s.peer n).record = some r) : r.speed ≤ s.peerTopSpeed :=
  s.peerTopSpeed_greatest.2 _ (.tail _ ((s.mem_peerSpeeds _).2 ⟨n, r, hn, hf, hr, rfl⟩))

theorem State.peerTopSpeed_cases (s : State) : s.peerTopSpeed = 0 ∨ ∃ n r, s.isPeer n = true ∧
    (s.peer n).freshness = .fresh ∧ (s.peer n).record = some r ∧ r.speed = s.peerTopSpeed :=
  (List.mem_cons.1 s.peerTopSpeed_greatest.1).imp_right (s.mem_peerSpeeds _).1

theorem State.sub_le_referenceNow (s : State) : s.slip.vref - 5 ≤ s.referenceNow := by
  simp [State.referenceNow]

theorem State.peerTopSpeed_le_referenceNow (s : State) : s.peerTopSpeed ≤ s.referenceNow := by
  simp [State.referenceNow]

theorem State.speed_le_referenceNow (s : State) (side : Side) : (atSide s.slip.wheels side).speed ≤ s.referenceNow := by
  cases side <;> simp [State.referenceNow, atSide]

/-- The reference is one of the speeds it is the greatest of. -/
theorem State.referenceNow_cases (s : State) : s.referenceNow = s.slip.vref - 5 ∨
    (∃ side, s.referenceNow = (atSide s.slip.wheels side).speed) ∨
    ∃ n r, s.isPeer n = true ∧ (s.peer n).freshness = .fresh ∧ (s.peer n).record = some r ∧
      r.speed = s.referenceNow := by
  have hfour : s.referenceNow = s.slip.vref - 5 ∨ s.referenceNow = s.slip.wheels.left.speed ∨
      s.referenceNow = s.slip.wheels.right.speed ∨ s.referenceNow = s.peerTopSpeed := by
    simp only [State.referenceNow]
    omega
  rcases hfour with h | h | h | h
  · exact .inl h
  · exact .inr (.inl ⟨.left, h⟩)
  · exact .inr (.inl ⟨.right, h⟩)
  · rcases s.peerTopSpeed_cases with h0 | htop
    · have hsub := s.sub_le_referenceNow
      exact .inl (by omega)
    · rw [h]
      exact .inr (.inr htop)

/-! ### One wheel in stages 4 and 5 (R101 to R106) -/

theorem Wheel.act_of_off (h : w.state = .off) : w.act x p = w.follow p := by
  simp [Wheel.act, h]

theorem Wheel.act_of_locking (hoff : w.state ≠ .off) (hdump : w.state ≠ .dump) (hx : 150 ≤ x) :
    w.act x p = w.toDump p := by
  cases h : w.state
  case off => exact absurd h hoff
  case dump => exact absurd h hdump
  all_goals simp [Wheel.act, h, hx]

section
variable (h : w.state = .apply)
include h

theorem Wheel.act_of_apply_slipping (hx : 80 ≤ x) (hx' : x < 150) : w.act x p = w.toHold p := by
  simp [Wheel.act, h, hx, Nat.not_le.2 hx']

theorem Wheel.act_of_apply_gripping (hx : x < 80) : w.act x p = if w.reapply then w.ramp p else w.follow p := by
  have hlock : ¬150 ≤ x := by omega
  simp [Wheel.act, h, hlock, Nat.not_le.2 hx]

end

section
variable (h : w.state = .hold)
include h

theorem Wheel.act_of_hold_slipping (hx : 40 ≤ x) (hx' : x < 150) : w.act x p = w.stayHold p 0 := by
  simp [Wheel.act, h, hx, Nat.not_le.2 hx']

theorem Wheel.act_of_hold_gripping (hx : x < 40) : w.act x p = w.countGrip p := by
  have hlock : ¬150 ≤ x := by omega
  simp [Wheel.act, h, hlock, Nat.not_le.2 hx]

end

theorem Wheel.countGrip_of_few (h : w.grip < 2) : w.countGrip p = w.stayHold p (w.grip + 1) :=
  if_pos (by omega)

theorem Wheel.countGrip_of_third (h : 2 ≤ w.grip) : w.countGrip p = w.ramp p :=
  if_neg (by omega)

theorem Wheel.act_of_dump_gripping (h : w.state = .dump) (hx : x < 80) : w.act x p = w.toHold p := by
  simp [Wheel.act, h, hx]

theorem Wheel.act_of_dump_slipping (h : w.state = .dump) (hx : 80 ≤ x) : w.act x p = w.toDump p := by
  simp [Wheel.act, h, Nat.not_lt.2 hx]

/-- The flag stays set until the ramp has come to p_req (R106). -/
theorem Wheel.ramp_reapply_iff (w : Wheel) (p : Nat) : (w.ramp p).reapply = true ↔ (w.ramp p).target ≠ p := by
  simp [Wheel.ramp]

/-- A wheel after stages 4 and 5: at p_req in OFF where that is forced, else as its slip has it. -/
def Wheel.driven (w : Wheel) (forced : Bool) (p : Nat) : Wheel :=
  if forced then w.toOff p else w.act (w.slip.getD 0) p

theorem State.actWheel_eq (s : State) (side : Side) : s.actWheel side =
    s.putWheel side ((atSide s.slip.wheels side).driven (s.forcedOff side) s.brake.pReq) := rfl

theorem Wheel.driven_of_forced (w : Wheel) (p : Nat) : w.driven true p = w.toOff p := rfl

theorem Wheel.driven_of_slip (h : w.slip = some x) : w.driven false p = w.act x p := by
  simp [Wheel.driven, h]

/-- Stages 4 and 5 leave what was measured, and the lock count with its flag and timer. -/
@[simp] theorem Wheel.driven_frame (w : Wheel) (forced : Bool) (p : Nat) :
    (w.driven forced p).window = w.window ∧ (w.driven forced p).count = w.count ∧
    (w.driven forced p).speed = w.speed ∧ (w.driven forced p).slip = w.slip ∧ (w.driven forced p).lock = w.lock ∧
    (w.driven forced p).degraded = w.degraded ∧ (w.driven forced p).alertTimer = w.alertTimer := by
  unfold Wheel.driven Wheel.act Wheel.countGrip
  (repeat' split) <;> exact ⟨rfl, rfl, rfl, rfl, rfl, rfl, rfl⟩

/-- No target is above p_req. -/
theorem Wheel.driven_target_le (w : Wheel) (forced : Bool) (p : Nat) : (w.driven forced p).target ≤ p := by
  unfold Wheel.driven Wheel.act Wheel.countGrip
  (repeat' split) <;> simp [Wheel.toOff, Wheel.toDump, Wheel.toHold, Wheel.stayHold, Wheel.ramp, Wheel.follow]

theorem State.forcedOff_iff (s : State) (side : Side) : s.forcedOff side = true ↔
    s.slip.vref < 30 ∨ atSide s.brake.cause side ≠ .none ∨ s.brake.state = .passthrough ∨ s.ladder.mode = .backup := by
  simp [State.forcedOff, or_assoc]

theorem State.forcedOff_of_free {side : Side} (hv : 30 ≤ s.slip.vref) (hcause : atSide s.brake.cause side = .none)
    (hbrake : s.brake.state = .electric) (hmode : s.ladder.mode ≠ .backup) : s.forcedOff side = false := by
  simp [State.forcedOff, hv, hcause, hbrake, hmode]

/-! ### The lock count and its alert (R108) -/

theorem Wheel.locking_iff (h : w.slip = some x) : w.locking = true ↔ w.state = .dump ∧ 150 ≤ x := by
  simp [Wheel.locking, h]

/-- The period's lock count brings the count to 100 with the flag clear. -/
def Wheel.raises (w : Wheel) : Bool := w.locking && decide (99 ≤ w.lock) && !w.degraded

/-- A wheel after stage 6. -/
def Wheel.counted (w : Wheel) : Wheel :=
  if w.raises then { w with lock := 100, degraded := true, alertTimer := 20 }
  else if w.locking then { w with lock := min 100 (w.lock + 1) }
  else { w with lock := 0, degraded := false, alertTimer := 0 }

/-- Stage 6 leaves all but the lock count, its flag and its timer. -/
@[simp] theorem Wheel.counted_frame (w : Wheel) :
    w.counted.window = w.window ∧ w.counted.count = w.count ∧ w.counted.speed = w.speed ∧ w.counted.slip = w.slip ∧
    w.counted.state = w.state ∧ w.counted.reapply = w.reapply ∧ w.counted.grip = w.grip ∧ w.counted.held = w.held ∧
    w.counted.target = w.target := by
  unfold Wheel.counted
  (repeat' split) <;> exact ⟨rfl, rfl, rfl, rfl, rfl, rfl, rfl, rfl, rfl⟩

theorem Wheel.counted_of_not_locking (h : ¬w.locking = true) :
    w.counted = { w with lock := 0, degraded := false, alertTimer := 0 } := by
  simp [Wheel.counted, Wheel.raises, h]

section
variable (h : w.locking = true)
include h

theorem Wheel.raises_iff_of_locking : w.raises = true ↔ 99 ≤ w.lock ∧ w.degraded = false := by
  simp [Wheel.raises, h]

theorem Wheel.counted_of_locking : w.counted.lock = min 100 (w.lock + 1) := by
  by_cases hr : w.raises = true
  · have hlock := ((Wheel.raises_iff_of_locking h).1 hr).1
    have hfull : min 100 (w.lock + 1) = 100 := by omega
    simp [Wheel.counted, hr, hfull]
  · simp [Wheel.counted, hr, h]

theorem Wheel.counted_of_quiet (hq : w.lock < 99 ∨ w.degraded = true) :
    w.counted.degraded = w.degraded ∧ w.counted.alertTimer = w.alertTimer := by
  have hraises : ¬w.raises = true := by
    rw [Wheel.raises_iff_of_locking h]
    grind
  simp [Wheel.counted, hraises, h]

theorem Wheel.counted_of_raising (hlock : 99 ≤ w.lock) (hd : w.degraded = false) :
    w.counted = { w with lock := 100, degraded := true, alertTimer := 20 } :=
  if_pos ((Wheel.raises_iff_of_locking h).2 ⟨hlock, hd⟩)

end

/-- The flag goes from clear to set in no other way. -/
theorem Wheel.raises_iff (w : Wheel) : w.raises = true ↔ w.degraded = false ∧ w.counted.degraded = true := by
  by_cases h : w.locking = true
  · rw [Wheel.raises_iff_of_locking h]
    constructor
    · rintro ⟨hlock, hd⟩
      simp [Wheel.counted_of_raising h hlock hd, hd]
    · rintro ⟨hd, hset⟩
      refine ⟨Nat.not_lt.1 fun hlock => ?_, hd⟩
      simp [(Wheel.counted_of_quiet h (.inl hlock)).1, hd] at hset
  · simp [Wheel.counted_of_not_locking h, Wheel.raises, h]

theorem State.countLock_eq (s : State) (side : Side) : s.countLock side =
    if (atSide s.slip.wheels side).raises then
      (s.putWheel side (atSide s.slip.wheels side).counted).offerAlert .brakeDegraded (sideNumber side)
    else s.putWheel side (atSide s.slip.wheels side).counted := by
  by_cases hin : (atSide s.slip.wheels side).locking = true
  · have hfull : (growTo 100 1 (atSide s.slip.wheels side).lock == 100 && !(atSide s.slip.wheels side).degraded) =
        (atSide s.slip.wheels side).raises := by
      rw [Bool.eq_iff_iff, Wheel.raises_iff_of_locking hin, growTo_eq_min]
      simp
    rw [State.countLock, if_pos hin, hfull]
    simp only [Wheel.counted, hin, growTo_eq_min, if_true]
    split <;> rfl
  · rw [State.countLock, if_neg hin, Wheel.counted_of_not_locking hin, Wheel.raises, Bool.eq_false_iff.2 hin]
    rfl

theorem State.countLock_slip (s : State) (side : Side) :
    (s.countLock side).slip = (s.putWheel side (atSide s.slip.wheels side).counted).slip := by
  rw [s.countLock_eq]
  split <;> simp

/-- What stage 6 does to the link and the reply slot, in a state `u` that has those of `s`. -/
theorem State.countLock_alerts (hl : u.link = s.link) (hv : u.service = s.service) (side : Side) {a : State}
    (ha : a = if (atSide u.slip.wheels side).raises then s.offerAlert .brakeDegraded (sideNumber side) else s) :
    (u.countLock side).link = a.link ∧ (u.countLock side).service = a.service := by
  rw [u.countLock_eq, ha]
  split
  · exact State.offerAlert_congr (by exact hl) (by exact hv) _ _
  · exact ⟨hl, hv⟩

/-! ### A slip period (R98) -/

/-- A wheel after stages 1 to 3, against the reference `vref`. -/
def Wheel.measured (w : Wheel) (perStep vref : Nat) : Wheel :=
  { w.closeWindow perStep with slip := slipOf vref (w.closeWindow perStep).speed }

/-- The reference of a slip period (R99). -/
def State.periodReference (s : State) : Nat := s.closeWindows.referenceNow

/-- The state after stages 1 to 3. -/
def State.slipMeasured (s : State) : State := s.closeWindows.measureSlip

/-- A wheel after stages 1 to 5 of a slip period. -/
def State.wheelDriven (s : State) (side : Side) : Wheel :=
  ((atSide s.slip.wheels side).measured s.cfg.pulsesPerStep s.periodReference).driven (s.slipMeasured.forcedOff side)
    s.brake.pReq

/-- The state after stages 1 to 5. -/
def State.slipDriven (s : State) : State := (s.slipMeasured.actWheel .left).actWheel .right

theorem State.slipPeriod_of_loaded (h : s.loaded = true) :
    s.slipPeriod = (s.slipDriven.countLock .left).countLock .right := if_pos h

theorem State.slipDriven_slip (s : State) :
    s.slipDriven.slip = { vref := s.periodReference, wheels := ⟨s.wheelDriven .left, s.wheelDriven .right⟩ } := by
  rw [State.slipDriven, State.actWheel_eq, State.actWheel_eq]
  rfl

theorem State.slipPeriod_slip (h : s.loaded = true) : s.slipPeriod.slip =
    { vref := s.periodReference, wheels := ⟨(s.wheelDriven .left).counted, (s.wheelDriven .right).counted⟩ } := by
  rw [State.slipPeriod_of_loaded h, State.countLock_slip, State.putWheel, State.countLock_slip,
    State.putWheel, s.slipDriven_slip]
  rfl

theorem State.slipPeriod_wheel (h : s.loaded = true) (side : Side) :
    atSide s.slipPeriod.slip.wheels side = (s.wheelDriven side).counted := by
  rw [State.slipPeriod_slip h]
  cases side <;> rfl

theorem State.wheelDriven_raises_iff (s : State) (side : Side) : (s.wheelDriven side).raises = true ↔
    (atSide s.slip.wheels side).degraded = false ∧ (s.wheelDriven side).counted.degraded = true := by
  rw [Wheel.raises_iff, State.wheelDriven]
  simp [Wheel.measured, Wheel.closeWindow]

/-- What a slip period does to the link and the reply slot: the left wheel's first alert, then the right wheel's. -/
theorem State.slipPeriod_alerts (h : s.loaded = true) {a b : State}
    (ha : a = if s.slip.wheels.left.degraded = false ∧ s.slipPeriod.slip.wheels.left.degraded = true then
      s.offerAlert .brakeDegraded 0 else s)
    (hb : b = if s.slip.wheels.right.degraded = false ∧ s.slipPeriod.slip.wheels.right.degraded = true then
      a.offerAlert .brakeDegraded 1 else a) :
    s.slipPeriod.link = b.link ∧ s.slipPeriod.service = b.service := by
  have hwheel : atSide (s.slipDriven.countLock .left).slip.wheels .right = s.wheelDriven .right := by
    rw [State.countLock_slip, State.putWheel, s.slipDriven_slip]
    rfl
  simp only [State.slipPeriod_slip h] at ha hb
  obtain ⟨hl, hv⟩ := State.countLock_alerts (u := s.slipDriven) (s := s) rfl rfl .left (a := a) (by
    rw [ha]
    exact if_congr (s.wheelDriven_raises_iff .left).symm rfl rfl)
  rw [State.slipPeriod_of_loaded h]
  refine State.countLock_alerts hl hv .right ?_
  rw [hb, hwheel]
  exact if_congr (s.wheelDriven_raises_iff .right).symm rfl rfl

/-- Only slip control, the link and the reply slot change. -/
theorem State.slipPeriod_blocks (s : State) : s.slipPeriod = { s with
    slip := s.slipPeriod.slip
    link := s.slipPeriod.link
    service := s.slipPeriod.service } := by
  apply State.eq_of_blocks <;> simp

/-- Before the configuration is held the step of the default image is 1 pulse (R97). -/
theorem State.slipPeriod_of_unloaded (h : s.loaded = false) (hc : s.startUp.config = none) :
    s.slipPeriod = { s with slip := { s.slip with
      wheels := ⟨s.slip.wheels.left.closeWindow 1, s.slip.wheels.right.closeWindow 1⟩ } } := by
  have hstep : s.cfg.pulsesPerStep = 1 := by simp [State.cfg, hc, defaultImage]
  rw [State.slipPeriod, if_neg (by simp [h]), State.closeWindows, hstep]

theorem Wheel.closeWindow_one (w : Wheel) : w.closeWindow 1 = { w with
    window := (w.count :: w.window).take 10
    count := 0
    speed := min 1500 (((w.count :: w.window).take 10).sum * 36) } := by
  simp [Wheel.closeWindow, speedOf]

theorem slipOf_of_pos {vref : Nat} (h : vref ≠ 0) (v : Nat) : slipOf vref v = some ((vref - v) * 1000 / vref) :=
  if_neg (by simpa using h)

theorem State.wheelDriven_speed (s : State) (side : Side) :
    (s.wheelDriven side).speed = (atSide s.closeWindows.slip.wheels side).speed := by
  simp only [State.wheelDriven, Wheel.driven_frame]
  cases side <;> rfl

/-- What a wheel carries through stages 4 and 5: its figures of stages 1 to 3, and its lock count, flag and timer. -/
theorem State.wheelDriven_figures (s : State) (side : Side) :
    (s.wheelDriven side).window = ((atSide s.slip.wheels side).count :: (atSide s.slip.wheels side).window).take 10 ∧
    (s.wheelDriven side).count = 0 ∧
    (s.wheelDriven side).speed = speedOf (s.wheelDriven side).window.sum s.cfg.pulsesPerStep ∧
    (s.wheelDriven side).slip = slipOf s.periodReference (s.wheelDriven side).speed ∧
    (s.wheelDriven side).lock = (atSide s.slip.wheels side).lock ∧
    (s.wheelDriven side).degraded = (atSide s.slip.wheels side).degraded ∧
    (s.wheelDriven side).alertTimer = (atSide s.slip.wheels side).alertTimer := by
  simp only [State.wheelDriven, Wheel.driven_frame]
  exact ⟨rfl, rfl, rfl, rfl, rfl, rfl, rfl⟩

section
variable {side : Side}

/-- A wheel forced to OFF (R101). -/
theorem State.wheelDriven_of_forced (h : s.slipMeasured.forcedOff side = true) :
    s.wheelDriven side = ((atSide s.slip.wheels side).measured s.cfg.pulsesPerStep s.periodReference).toOff
      s.brake.pReq := by
  rw [State.wheelDriven, h, Wheel.driven_of_forced]

/-- Any other wheel acts on this period's slip from where the last period left it. -/
theorem State.wheelDriven_of_slip (h : s.slipMeasured.forcedOff side = false)
    (hx : (s.wheelDriven side).slip = some x) : ∃ m : Wheel, s.wheelDriven side = m.act x s.brake.pReq ∧
      m.state = (atSide s.slip.wheels side).state ∧ m.reapply = (atSide s.slip.wheels side).reapply ∧
      m.grip = (atSide s.slip.wheels side).grip ∧ m.held = (atSide s.slip.wheels side).held ∧
      m.target = (atSide s.slip.wheels side).target := by
  refine ⟨(atSide s.slip.wheels side).measured s.cfg.pulsesPerStep s.periodReference, ?_, rfl, rfl, rfl, rfl, rfl⟩
  rw [State.wheelDriven, h] at hx ⊢
  exact Wheel.driven_of_slip (by simpa using hx)

end

/-- Settles O36: before the configuration the windows alone, then the period by its reference and by each wheel's
measured slip, its edge and its lock count. -/
theorem slipPeriodActsOnEachWheel : Obligations.SlipPeriodActsOnEachWheel := by
  refine ⟨fun s hl hc => congrArg Host.Outcome.next ?_, fun s hl => ⟨s.slipPeriod, rfl, fun a b ha hb => ?_, ?_⟩⟩
  · rw [State.slipPeriod_of_unloaded hl hc, Wheel.closeWindow_one, Wheel.closeWindow_one]
  · obtain ⟨hlink, hservice⟩ := State.slipPeriod_alerts hl ha hb
    rw [← hlink, ← hservice]
    exact s.slipPeriod_blocks
  have hvref : s.slipPeriod.slip.vref = s.periodReference := by rw [State.slipPeriod_slip hl]
  simp only [hvref, State.slipPeriod_wheel hl, Wheel.counted_frame]
  refine ⟨State.sub_le_referenceNow s.closeWindows, fun n r hn hf hr => ?_, ?_, fun side w w' p hw hw' hp => ?_⟩
  · exact (State.le_peerTopSpeed (s := s.closeWindows) hn hf hr).trans (State.peerTopSpeed_le_referenceNow _)
  · simp only [s.wheelDriven_speed]
    exact s.closeWindows.referenceNow_cases
  obtain ⟨hwindow, hcount, hspeed, hslip, hlock, hdegraded, htimer⟩ := s.wheelDriven_figures side
  subst hw hw' hp
  simp only [Wheel.counted_frame]
  refine ⟨hwindow, hcount, hspeed, ?_, Wheel.driven_target_le _ _ _, fun h0 => ?_, fun h0 => ?_, fun h => ?_,
    fun hv hcause hbrake hmode x hx => ?_⟩
  · rw [s.wheelDriven_speed]
    exact s.closeWindows.speed_le_referenceNow side
  · rw [hslip, h0]
    rfl
  · rw [hslip, slipOf_of_pos h0]
  · rw [State.wheelDriven_of_forced ((s.slipMeasured.forcedOff_iff side).2 h),
      Wheel.counted_of_not_locking (by simp [Wheel.locking, Wheel.toOff])]
    exact ⟨rfl, rfl, rfl, rfl, rfl, rfl, rfl⟩
  have hfree := State.forcedOff_of_free (s := s.slipMeasured) hv hcause hbrake hmode
  obtain ⟨m, hm, hstate, hreapply, hgrip, hheld, htarget⟩ := State.wheelDriven_of_slip hfree hx
  have hlocking := Wheel.locking_iff hx
  simp only [← hstate, ← hreapply, ← hgrip, ← hheld, ← htarget]
  refine ⟨fun h => ?_, fun hoff hdump h150 => ?_, fun h h80 h150 => ?_, fun h h80 hr => ?_, fun h h80 hr => ?_,
    fun h h40 h150 => ?_, fun h h40 hg => ?_, fun h h40 hg => ?_, fun h h80 => ?_, fun h h80 => ?_,
    fun h h150 => ?_, fun h h150 hquiet => ?_, fun h h150 hfull hd => ?_, fun h => ?_⟩
  · rw [hm, Wheel.act_of_off h]
    exact ⟨rfl, rfl, rfl⟩
  · rw [hm, Wheel.act_of_locking hoff hdump h150]
    exact ⟨rfl, rfl, rfl, rfl⟩
  · rw [hm, Wheel.act_of_apply_slipping h h80 h150]
    exact ⟨rfl, rfl, rfl, rfl, rfl⟩
  · rw [hm, Wheel.act_of_apply_gripping h h80, hr]
    exact ⟨rfl, rfl, rfl⟩
  · rw [hm, Wheel.act_of_apply_gripping h h80, hr]
    exact ⟨rfl, rfl, m.ramp_reapply_iff _⟩
  · rw [hm, Wheel.act_of_hold_slipping h h40 h150]
    exact ⟨h, rfl, rfl, rfl⟩
  · rw [hm, Wheel.act_of_hold_gripping h h40, Wheel.countGrip_of_few hg]
    exact ⟨h, rfl, rfl, rfl⟩
  · rw [hm, Wheel.act_of_hold_gripping h h40, Wheel.countGrip_of_third hg]
    exact ⟨rfl, rfl, rfl, m.ramp_reapply_iff _⟩
  · rw [hm, Wheel.act_of_dump_gripping h h80]
    exact ⟨rfl, rfl, rfl, rfl⟩
  · rw [hm, Wheel.act_of_dump_slipping h h80]
    exact ⟨rfl, rfl⟩
  · rw [← hlock]
    exact Wheel.counted_of_locking (hlocking.2 ⟨h, h150⟩)
  · have hin := hlocking.2 ⟨h, h150⟩
    rw [Wheel.counted_of_locking hin, ← hdegraded] at hquiet
    rw [← hdegraded, ← htimer]
    exact Wheel.counted_of_quiet hin (hquiet.imp_left fun _ => by omega)
  · have hin := hlocking.2 ⟨h, h150⟩
    rw [Wheel.counted_of_locking hin] at hfull
    rw [Wheel.counted_of_raising hin (by omega) (hdegraded.trans hd)]
    exact ⟨rfl, rfl⟩
  · rw [Wheel.counted_of_not_locking (by rw [hlocking]; grind)]
    exact ⟨rfl, rfl, rfl⟩

/-! ### The counts that reach their ends (R104, R108) -/

theorem State.gripDue_iff {side : Side} (hslip : (atSide s.slip.wheels side).slip = some x) : s.gripDue side = true ↔
    s.loaded = true ∧ s.forcedOff side = false ∧ (atSide s.slip.wheels side).state = .hold ∧ x < 40 ∧
      2 ≤ (atSide s.slip.wheels side).grip := by
  simp [State.gripDue, hslip, and_assoc]

theorem State.degradedDue_iff (s : State) (side : Side) :
    s.degradedDue side = true ↔ s.loaded = true ∧ (atSide s.slip.wheels side).raises = true := by
  have hcount (n : Nat) : 100 ≤ n + 1 ↔ 99 ≤ n := by omega
  simp only [State.degradedDue, Wheel.raises, Bool.and_eq_true, decide_eq_true_eq, hcount]
  tauto

/-- Settles O37: at the counts 2 and 99 the commands' guards hold, and they take the ramp and the period's own lock
count. -/
theorem slipCountsReachTheirLimits : Obligations.SlipCountsReachTheirLimits := by
  refine ⟨fun side s x hl hfree hs hx h40 hg => ⟨(atSide s.slip.wheels side).ramp s.brake.pReq, ?_, rfl, rfl, rfl,
    Wheel.ramp_reapply_iff _ _, rfl⟩, fun side s x hl hs hx h150 hd hlock => ?_⟩
  · rw [← Wheel.countGrip_of_third hg.ge]
    exact next_of_due ((State.gripDue_iff hx).2 ⟨hl, hfree, hs, h40, hg.ge⟩)
  · have hin := (Wheel.locking_iff hx).2 ⟨hs, h150⟩
    have hraises := (Wheel.raises_iff_of_locking hin).2 ⟨hlock.ge, hd⟩
    rw [← Wheel.counted_of_raising hin hlock.ge hd]
    exact (next_of_due ((s.degradedDue_iff side).2 ⟨hl, hraises⟩)).trans
      (congrArg Host.Outcome.next ((s.countLock_eq side).trans (if_pos hraises)))

end Sys2Proof.Machine
end

section
/-! PROOFS. Every step keeps the air budget: the slices used within the window limit, the limit within the share. -/

namespace Sys2Proof.Machine

variable {s t : State}

/-! ### The budget through the updates that leave it -/

/-- The slices used, the window limit and the share are those of `s`. -/
def State.BudgetStays (s t : State) : Prop :=
  t.levelling.used = s.levelling.used ∧ t.levelling.limit = s.levelling.limit ∧ t.levelling.share = s.levelling.share

theorem State.BudgetStays.of_levelling (h : t.levelling = s.levelling) : s.BudgetStays t := by
  simp only [State.BudgetStays, h, and_self]

theorem Levelling.SlicesOk.stays (h : s.levelling.SlicesOk) (hb : s.BudgetStays t) : t.levelling.SlicesOk := by
  obtain ⟨hused, hlimit, hshare⟩ := hb
  exact ⟨hused.trans_le (h.used.trans_eq hlimit.symm), hlimit.trans_le (h.limit.trans_eq hshare.symm)⟩

theorem Levelling.SlicesOk.ite {c : Bool} (h : s.levelling.SlicesOk) (ht : t.levelling.SlicesOk) :
    (if c then t else s).levelling.SlicesOk := by
  split
  · exact ht
  · exact h

theorem Levelling.SlicesOk.empty : ({} : Levelling).SlicesOk := ⟨Nat.le_refl _, Nat.le_refl _⟩

theorem State.readHeight_budget (s : State) (side : Side) (v : Microvolt) : s.BudgetStays (s.readHeight side v) := by
  simp [State.BudgetStays, State.readHeight, State.putCorner]

theorem State.readBellows_budget (s : State) (side : Side) (v : Microvolt) : s.BudgetStays (s.readBellows side v) := by
  simp [State.BudgetStays, State.readBellows, State.putCorner]

theorem State.readSupply_budget (s : State) (v : Microvolt) : s.BudgetStays (s.readSupply v) := by
  unfold State.readSupply
  split
  · simp [State.BudgetStays]
  · exact .of_levelling rfl

theorem State.lockTest_budget (s : State) (side : Side) : s.BudgetStays (s.lockTest side) := by
  simp only [State.lockTest]
  (repeat' split) <;> exact ⟨rfl, rfl, rfl⟩

theorem State.measureLoad_budget (s : State) : s.BudgetStays s.measureLoad := by
  unfold State.measureLoad
  (repeat' split) <;> exact ⟨rfl, rfl, rfl⟩

theorem State.noteValves_budget (s : State) : s.BudgetStays s.noteValves := ⟨rfl, rfl, rfl⟩

theorem State.setFilling_budget (s : State) : s.BudgetStays s.setFilling := ⟨rfl, rfl, rfl⟩

theorem State.noteTrims_budget (s : State) : s.BudgetStays s.noteTrims := ⟨rfl, rfl, rfl⟩

theorem State.runRaiseTimer_budget (s : State) : s.BudgetStays s.runRaiseTimer := by
  simp only [State.runRaiseTimer]
  (repeat' split) <;> exact ⟨rfl, rfl, rfl⟩

/-- A sweep that starts closes the valves (R117). -/
theorem State.startSweep_budget (s : State) : s.BudgetStays s.startSweep := by
  simp [State.BudgetStays, State.startSweep, State.handOver]

theorem State.sweepOrSkip_budget (s : State) : s.BudgetStays s.sweepOrSkip := by
  unfold State.sweepOrSkip
  split
  · exact State.startSweep_budget _
  · exact .of_levelling rfl

theorem State.configure_budget (s : State) (image : List Byte) : s.BudgetStays (s.configure image) := by
  simp [State.BudgetStays, State.configure, State.blocksStart]

/-! ### Frames -/

/-- A request starts a sweep, sets the trims, or leaves levelling alone (R174 to R177). -/
theorem State.servePayload_budget (s : State) (n : Fin 8) (p : List Byte) : s.BudgetStays (s.servePayload n p) := by
  have hcarry (r : Request) (args : List Byte) : s.BudgetStays (s.carry n r args) := by
    cases r with
    | coilSweep =>
      simp only [State.carry, State.serveCoilSweep]
      split
      · exact State.startSweep_budget _
      · exact .of_levelling (by simp)
    | calibrateHeight =>
      simp only [State.carry, State.serveCalibrate]
      (repeat' split) <;> simp [State.BudgetStays, State.setTrims]
    | snapshot =>
      simp only [State.carry]
      split
      · exact .of_levelling (by simp)
      · exact .of_levelling rfl
    | readFaults | clearFaults | restart => exact .of_levelling (by simp [State.carry])
  unfold State.servePayload State.serve
  split
  · exact .of_levelling (by simp)
  · split
    · split
      · exact .of_levelling (by simp)
      · split
        · exact .of_levelling (by simp)
        · exact hcarry _ _
    · exact .of_levelling (by simp)

/-- Past screening a request alone reaches levelling (R20). -/
theorem State.route_budget (s : State) (k : Kind) (a : Address) (p : List Byte) : s.BudgetStays (s.route k a p) := by
  cases k with
  | serviceReq =>
    simp only [State.route, State.routeRequest, State.takeRequest]
    split
    · exact .of_levelling rfl
    · split
      · exact .of_levelling rfl
      · split
        · exact .of_levelling rfl
        · exact s.servePayload_budget _ p
  | state | demand | alert | trace | serviceReply =>
    simp only [State.route]
    (repeat' split) <;> exact .of_levelling (by simp)

theorem State.receive_slicesOk (h : s.levelling.SlicesOk) (head : RawHead) (p : List Byte) :
    (s.receive head p).levelling.SlicesOk :=
  State.receive_keeps (P := fun u => u.levelling.SlicesOk) (fun _ _ hu => hu) (fun _ hu => hu)
    (fun _ hu => by simpa using hu) (fun u k a p hu => hu.stays (u.route_budget k a p)) h head p

/-! ### The updates that change it -/

/-- A window starts with no slice used and the limit at the share (R125). -/
theorem State.startWindow_slicesOk (s : State) : s.startWindow.levelling.SlicesOk := ⟨Nat.zero_le _, Nat.le_refl _⟩

/-- The cut lowers the limit no further than to the slices used (R127). -/
theorem State.cutWindow_slicesOk (h : s.levelling.SlicesOk) : s.cutWindow.levelling.SlicesOk := by
  unfold State.cutWindow
  split
  · refine ⟨Nat.le_add_right _ _, le_trans ?_ h.limit⟩
    exact (Nat.add_le_add_left (Nat.min_le_left _ _) _).trans_eq (Nat.add_sub_cancel' h.used)
  · exact ⟨Nat.le_refl _, h.used.trans h.limit⟩

theorem State.levelStage2_slicesOk (h : s.levelling.SlicesOk) : s.levelStage2.levelling.SlicesOk := by
  have hband : s.updateBand.levelling.SlicesOk := h.stays ⟨rfl, rfl, rfl⟩
  simp only [State.levelStage2]
  split
  · exact State.cutWindow_slicesOk hband
  · exact hband

theorem State.levelStage3_slicesOk (h : s.levelling.SlicesOk) : s.levelStage3.levelling.SlicesOk := by
  unfold State.levelStage3
  split
  · exact s.startWindow_slicesOk
  · split
    · exact h.stays ⟨rfl, rfl, rfl⟩
    · exact h

/-- A corner is given a slice only while fewer than the limit are used (R126). -/
theorem State.serveCorner_slicesOk (h : s.levelling.SlicesOk) (side : Side) :
    (s.serveCorner side).levelling.SlicesOk := by
  unfold State.serveCorner
  split
  · split
    · next hleft =>
      obtain ⟨-, hused⟩ := Bool.and_eq_true_iff.1 hleft
      exact ⟨Nat.succ_le_of_lt (of_decide_eq_true hused), h.limit⟩
    · exact h.stays ⟨rfl, rfl, rfl⟩
  · exact h.stays ⟨rfl, rfl, rfl⟩

theorem State.levelStage5_slicesOk (h : s.levelling.SlicesOk) : s.levelStage5.levelling.SlicesOk :=
  State.serveCorner_slicesOk (State.serveCorner_slicesOk h _) _

/-- The stages of a levelling period in their order (R112). -/
theorem State.levellingPeriod_slicesOk (h : s.levelling.SlicesOk) (r : LevelReadings) :
    (s.levellingPeriod r).levelling.SlicesOk := by
  refine h.ite ?_
  have h1 : (s.levelStage1 r).levelling.SlicesOk :=
    ((((h.stays (s.readHeight_budget _ _)).stays (State.readHeight_budget _ _ _)).stays
      (State.readBellows_budget _ _ _)).stays (State.readBellows_budget _ _ _)).stays (State.readSupply_budget _ _)
  have h3 := State.levelStage3_slicesOk (State.levelStage2_slicesOk h1)
  have h4 : (s.levelStage1 r).levelStage2.levelStage3.levelStage4.levelling.SlicesOk :=
    (h3.stays (State.lockTest_budget _ .left)).stays (State.lockTest_budget _ .right)
  have hload := (State.levelStage5_slicesOk h4).stays (State.measureLoad_budget _)
  have hflag := (hload.stays (State.noteValves_budget _)).stays (State.setFilling_budget _)
  exact (hflag.stays (State.runRaiseTimer_budget _)).stays (State.noteTrims_budget _)

/-! ### The commands -/

theorem slicesOk_of_next {u : State} (h : (.next u : Host.Outcome State Fault Refusal) = .next t)
    (hu : u.levelling.SlicesOk) : t.levelling.SlicesOk :=
  holds_of_next (P := fun v => v.levelling.SlicesOk) h hu

/-- Every command keeps the budget's rule: the resets and a window start set it up, the cut and the slices handed out stay
within it, and no other command touches it. -/
theorem exec_slicesOk (c : Instr) (s t : State) (hs : s.levelling.SlicesOk) (h : exec c s = .next t) :
    t.levelling.SlicesOk := by
  cases c with
  | powerOnReset => exact slicesOk_of_next h .empty
  | serviceRestart => exact slicesOk_of_next h (hs.ite .empty)
  | configurationImageRead image => exact slicesOk_of_next h (hs.ite (hs.stays (s.configure_budget image)))
  | sweepOrSkip => exact slicesOk_of_next h (hs.ite (hs.stays s.sweepOrSkip_budget))
  | stateFrame | demandFrame | alertFrame | traceFrame | serviceReplyFrame | frameRejected | snapshot | readFaults
  | clearFaults | calibrateHeight | coilSweep | restart | unknownRequest =>
    exact slicesOk_of_next h (State.receive_slicesOk hs _ _)
  | levellingPeriod r => exact slicesOk_of_next h (State.levellingPeriod_slicesOk hs r)
  | airWindowStart => exact slicesOk_of_next h (hs.ite s.startWindow_slicesOk)
  | cornerLocked => exact slicesOk_of_next h (hs.ite (hs.stays ⟨rfl, rfl, rfl⟩))
  | outOfBandLimit side =>
    refine slicesOk_of_next h (hs.ite ?_)
    have hcounted : (s.putCorner side ((s.corner side).countBand (s.corner side).error
        s.cfg.deadband)).levelling.SlicesOk :=
      hs.stays ⟨rfl, rfl, rfl⟩
    exact (State.serveCorner_slicesOk hcounted side).stays ⟨rfl, rfl, rfl⟩
  | heightSensorRecovery => exact slicesOk_of_next h (hs.ite (hs.stays (s.readHeight_budget _ _)))
  | bellowsSensorRecovery => exact slicesOk_of_next h (hs.ite (hs.stays (s.readBellows_budget _ _)))
  | supplySensorRecovery => exact slicesOk_of_next h (hs.ite (hs.stays (s.readSupply_budget _)))
  | raiseSlow => exact slicesOk_of_next h (hs.ite (hs.stays s.runRaiseTimer_budget))
  | ladderPeriod | trackerPeriod | steeringPeriod | jointPeriod | brakePeriod | slipPeriod | wheelPulse =>
    exact slicesOk_of_next h (by simpa using hs)
  | alertExpiry | linkIdle | statePromotion | frameCheckError | frameFormatError => exact slicesOk_of_next h hs
  | lockTimeout | closeTimeout | reopeningDone =>
    refine slicesOk_of_next h ?_
    split
    · exact hs.ite (by simpa using hs)
    · exact hs
  | sweepStep =>
    refine slicesOk_of_next h (hs.ite ?_)
    split <;> simpa using hs
  | demandComputation =>
    refine slicesOk_of_next h (hs.ite ?_)
    simpa [State.setLines] using hs
  | _ => exact slicesOk_of_next h (hs.ite (by simpa using hs))

/-- Settles O60: the budget by the commands that touch it; a millisecond leaves levelling alone. -/
theorem everyStepKeepsSlicesWithinShare : Obligations.EveryStepKeepsSlicesWithinShare := fun _ _ =>
  step_keeps (P := fun u => u.levelling.SlicesOk) (fun _ _ hs => hs) (fun _ hs => hs) exec_slicesOk

end Sys2Proof.Machine
end

section
/-! PROOFS. The configuration image: its check value, the ranges of its fields, the checks in their order, its working
form, and the statement on its reading. -/

namespace Sys2Proof.Machine

variable {s : State} {b : List Byte}

/-! ### The check value (R164) -/

theorem bitsOf_eq_msbFirst (w x : Nat) : bitsOf w x = msbFirst w x := by
  induction w with
  | zero => rfl
  | succ w ih =>
    simp only [bitsOf, ih, msbFirst, List.range_succ_eq_map, List.map_cons, List.map_map]
    refine congrArg _ (List.map_congr_left fun i _ => ?_)
    simp only [Function.comp_apply]
    congr 1
    omega

theorem bitsOfBytes_eq_flatMap (bytes : List Byte) : bitsOfBytes bytes = bytes.flatMap fun x => bitsOf 8 x.toNat := by
  induction bytes with
  | nil => rfl
  | cons x rest ih => simp only [bitsOfBytes, ih, List.flatMap_cons]

theorem checkValueGood_iff (b : List Byte) : checkValueGood b = true ↔ imageCheckGood b := by
  have hbyte (i : Nat) : byteAt b i % 256 = byteAt b i := Nat.mod_eq_of_lt (byteAt_lt b i)
  simp [checkValueGood, imageCheckGood, bitsOfBytes_eq_flatMap, List.flatMap_map, bitsOf_eq_msbFirst, hbyte]

/-! ### The ranges (R164) -/

/-- A field without a further value is out of its range below its least value and above its greatest. -/
theorem FieldRange.holds_eq_false_iff (o : Nat) (form : FieldForm) (lo hi : Int) (b : List Byte) :
    FieldRange.holds ⟨o, form, lo, hi, none⟩ b = false ↔ form.read b o < lo ∨ hi < form.read b o := by
  simp [FieldRange.holds, imp_iff_not_or]

/-- A signed byte outside ±60 is one of 61 to 195. -/
theorem asSigned_out_iff {x : Nat} (h : x < 256) :
    asSigned 8 x < -60 ∨ 60 < asSigned 8 x ↔ 60 < x ∧ x < 196 := by
  simp only [asSigned]
  split <;> omega

/-- A field of the table is out of its range when the statement's field at its offset is. -/
theorem fieldRanges_hold (b : List Byte) : ∀ r ∈ fieldRanges, r.holds b = false ↔ imageFieldOut b r.offset := by
  simp only [fieldRanges, List.forall_mem_append, List.forall_mem_map, List.forall_mem_cons, List.mem_range,
    FieldRange.holds_eq_false_iff]
  refine ⟨⟨⟨⟨?_, fun n hn => ?_⟩, fun n hn => ?_⟩, ?_⟩, ?_⟩
  · simp [imageFieldOut, FieldForm.read]
    omega
  · interval_cases n <;> simp [imageFieldOut, FieldForm.read]
  · interval_cases n <;> simp [imageFieldOut, FieldForm.read]
  · have hbyte := byteAt_lt b 39
    simp [imageFieldOut, FieldForm.read, asSigned_out_iff (byteAt_lt b _)]
    omega
  · simp [imageFieldOut, FieldForm.read, FieldRange.holds]
    omega

/-- The fields stand in the order of their offsets. -/
theorem fieldRanges_ascend : fieldRanges.Pairwise fun r r' => r.offset < r'.offset := by decide

/-- The bytes without a range: the masks of present stations and of bus entrances, and the second bytes of pairs. -/
def unrangedOffsets : List Nat :=
  [3, 13, 15, 17, 19, 21, 23, 25, 27, 29, 31, 40, 41, 43, 47, 49, 51, 53, 55, 60, 62, 64, 66, 69]

/-- Every field of the statement is one of the table. -/
theorem imageFieldOut_offset {o : Nat} (h : imageFieldOut b o) : o ∈ fieldRanges.map (·.offset) := by
  have hle : o < 71 := by
    unfold imageFieldOut at h
    omega
  have htable : ∀ o < 71, o ∈ fieldRanges.map (·.offset) ∨ o ∈ unrangedOffsets := by decide
  have hunranged : ∀ o ∈ unrangedOffsets, ¬imageFieldOut b o := by simp [unrangedOffsets, imageFieldOut]
  exact (htable o hle).resolve_right fun hmem => hunranged o hmem h

/-- The first field out of its range is the one the search finds. -/
theorem fieldRanges_find_of_first {o : Nat} (ho : imageFieldOut b o) (hfirst : ∀ p, p < o → ¬imageFieldOut b p) :
    ∃ r, fieldRanges.find? (fun r => !r.holds b) = some r ∧ r.offset = o := by
  obtain ⟨r, hr, hro⟩ := List.mem_map.1 (imageFieldOut_offset ho)
  have hout : r.holds b = false := (fieldRanges_hold b r hr).2 (hro ▸ ho)
  obtain ⟨f, hfind⟩ : ∃ f, fieldRanges.find? (fun r => !r.holds b) = some f :=
    Option.isSome_iff_exists.1 (List.find?_isSome.2 ⟨r, hr, by simp [hout]⟩)
  obtain ⟨hf, before, after, hsplit, hbefore⟩ := List.find?_eq_some_iff_append.1 hfind
  have hfout := (fieldRanges_hold b f (List.mem_of_find?_eq_some hfind)).1 (by simpa using hf)
  refine ⟨f, hfind, le_antisymm ?_ (not_lt.1 fun hlt => hfirst _ hlt hfout)⟩
  have hasc := fieldRanges_ascend
  rw [hsplit] at hr hasc
  obtain ⟨-, htail, -⟩ := List.pairwise_append.1 hasc
  rcases List.mem_append.1 hr with hmem | hmem
  · simpa [hout] using hbefore r hmem
  · rcases List.mem_cons.1 hmem with rfl | hmem
    · exact hro.le
    · exact hro ▸ (List.rel_of_pairwise_cons htail hmem).le

theorem fieldRanges_find_of_none (h : ∀ o, o < 72 → ¬imageFieldOut b o) :
    fieldRanges.find? (fun r => !r.holds b) = none := by
  have htable : ∀ r ∈ fieldRanges, r.offset < 72 := by decide
  refine List.find?_eq_none.2 fun r hr => ?_
  simpa [← fieldRanges_hold b r hr] using h _ (htable r hr)

/-! ### The checks in their order (R164) -/

theorem imageFault_of_bad_check (h : ¬imageCheckGood b) (n : Fin 8) : imageFault n b = some 255 := by
  rw [← checkValueGood_iff] at h
  simp [imageFault, h]

theorem imageFault_of_range {r : FieldRange} (hc : imageCheckGood b)
    (h : fieldRanges.find? (fun r => !r.holds b) = some r) (n : Fin 8) : imageFault n b = some r.offset := by
  rw [← checkValueGood_iff] at hc
  simp [imageFault, hc, h]

/-- Past the ranges: the cab number, the present mask, a joint on a CAB station, the fade. -/
theorem imageFault_of_ranged (hc : imageCheckGood b) (h : ∀ o, o < 72 → ¬imageFieldOut b o) (n : Fin 8) :
    imageFault n b =
      if byteAt b 1 = 0 ∧ byteAt b 2 ≠ n.val then some 2
      else if (byteAt b 3).testBit n.val = false ∨ (byteAt b 3).testBit (byteAt b 2) = false then some 3
      else if byteAt b 1 = 0 ∧ byteAt b 57 ≠ 255 then some 57
      else if pairAt b 70 ≤ pairAt b 68 then some 70
      else none := by
  rw [← checkValueGood_iff] at hc
  simp [imageFault, hc, fieldRanges_find_of_none h, maskHas]

theorem imageFault_checked (n : Fin 8) (b : List Byte) : ImageChecked n b (imageFault n b) where
  checkValue h := imageFault_of_bad_check h n
  ranges hc o _ ho hfirst := by
    obtain ⟨r, hfind, rfl⟩ := fieldRanges_find_of_first ho hfirst
    exact imageFault_of_range hc hfind n
  cab hc hr hcab hn := by rw [imageFault_of_ranged hc hr, if_pos ⟨hcab, hn⟩]
  mask hc hr hcab hmask := by
    rw [imageFault_of_ranged hc hr, if_neg (by tauto), if_pos hmask]
  joint hc hr hcab hn hmask hj := by
    rw [imageFault_of_ranged hc hr, if_neg (by tauto), if_neg (by simp [hn, hmask]), if_pos ⟨hcab, hj⟩]
  fade hc hr hcab hown hmask hle := by
    rw [imageFault_of_ranged hc hr, if_neg (by tauto), if_neg (by simp [hown, hmask]), if_neg (by tauto), if_pos hle]
  passes hc hr hcab hown hmask hlt := by
    rw [imageFault_of_ranged hc hr, if_neg (by tauto), if_neg (by simp [hown, hmask]), if_neg (by tauto),
      if_neg (by omega)]

/-! ### The working form -/

theorem imageFault_eq_none_ranges {n : Fin 8} (h : imageFault n b = none) : ∀ o, o < 72 → ¬imageFieldOut b o := by
  have hc : imageCheckGood b := by
    by_contra hbad
    rw [imageFault_of_bad_check hbad] at h
    exact nomatch h
  cases hfind : fieldRanges.find? (fun r => !r.holds b) with
  | some r =>
    rw [imageFault_of_range hc hfind] at h
    exact nomatch h
  | none =>
    intro o _ ho
    obtain ⟨r, hr, rfl⟩ := List.mem_map.1 (imageFieldOut_offset ho)
    simpa [(fieldRanges_hold b r hr).2 ho] using List.find?_eq_none.1 hfind r hr

theorem parseImage_holds {n : Fin 8} (h : imageFault n b = none) : ImageHolds (parseImage b) b := by
  have hranges := imageFault_eq_none_ranges h
  have hrole : byteAt b 1 ≤ 2 := by simpa [imageFieldOut] using hranges 1
  have hcab : byteAt b 2 ≤ 7 := by simpa [imageFieldOut] using hranges 2
  have hjoint : 2 < byteAt b 57 → byteAt b 57 = 255 := by simpa [imageFieldOut] using hranges 57
  constructor
  case role =>
    rcases (by omega : byteAt b 1 = 0 ∨ byteAt b 1 = 1 ∨ byteAt b 1 = 2) with h | h | h <;> simp [parseImage, h]
  case cabStation => simpa [parseImage] using (by omega : byteAt b 2 < 8)
  case present =>
    intro n
    exact (BitVec.getLsbD_ofNat _ _ _).trans (by simp [n.isLt])
  case sections | nominal =>
    intro n
    simp [parseImage]
  case joint =>
    simp only [parseImage]
    split
    · next h => simp [show byteAt b 57 ≠ 255 by omega]
    · next h => simp [hjoint (by omega)]
  case busEntrances => simpa [parseImage] using pairAt_lt b 40
  case trimLeft | trimRight => exact rfl
  case kerb | supplyFitted | loads | heights | fitted | pulsesPerStep | shares | pressures | path | levers | steering =>
    simp [parseImage]

/-! ### The reading (R110, R120, R144, R148, R165) -/

theorem State.readStraps_own (s : State) : s.readStraps.own = s.startUp.strap.getD (strapNumber s.startUp.pins) := rfl

theorem State.holdImage_of_good (h : imageFault s.own b = none) : s.holdImage b = { s with
    startUp := { s.startUp with
      config := some (parseImage b)
      status := .good } } := by
  simp only [State.holdImage, h]

theorem State.holdImage_of_bad {q : Nat} (h : imageFault s.own b = some q) : s.holdImage b = { s with
    startUp := { s.startUp with
      config := some defaultImage
      status := .bad
      badQualifier := some q }
    faults := s.faults.raise .configBad q } := by
  simp only [State.holdImage, h, State.raise]

/-- The state in which the first STATE is formed. -/
def State.configured (s : State) (image : List Byte) : State := (s.readStraps.holdImage image).blocksStart

theorem State.configure_blocks (s : State) (image : List Byte) : s.configure image = { s with
    startUp := (s.configure image).startUp
    levelling := (s.configure image).levelling
    interlock := { s.interlock with demandTimer := 0 }
    link := (s.configure image).link
    faults := (s.configure image).faults
    service := (s.configure image).service } := by
  apply State.eq_of_blocks <;> simp

/-- The first STATE changes the link and the reply slot alone. -/
theorem State.configure_configured (s : State) (image : List Byte) :
    (s.configure image).startUp = (s.readStraps.holdImage image).startUp ∧
    (s.configure image).faults = (s.readStraps.holdImage image).faults ∧
    (s.configure image).levelling = (s.configured image).levelling ∧
    (s.configure image).cfg = (s.configured image).cfg ∧
    (s.configure image).statePayload = (s.configured image).statePayload := by
  simp [State.configure, State.configured, State.cfg, State.statePayload, State.own, State.ownSupply, State.ownSpeed,
    State.deficitField]

theorem State.configured_levelling (s : State) (image : List Byte) : (s.configured image).levelling = { s.levelling with
    corners := ⟨{ s.levelling.corners.left with
        trim := (s.configured image).cfg.trim.left
        trimSeen := (s.configured image).cfg.trim.left }, { s.levelling.corners.right with
        trim := (s.configured image).cfg.trim.right
        trimSeen := (s.configured image).cfg.trim.right }⟩
    load := (s.configured image).cfg.unsprung } := by
  simp [State.configured, State.blocksStart, State.cfg, Corner.withTrim]

theorem State.configure_stateTimer (s : State) (image : List Byte) : (s.configure image).link.stateTimer = 20 := by
  simp [State.configure, State.firstState, State.offerState]

/-- On an empty queue the first STATE is its one entry (R148). -/
theorem State.configure_first (hq : s.link.queue = []) (hl : s.link.listenOnly = false) (image : List Byte) :
    (s.configure image).service = s.service ∧
      (s.configure image).link.queue = [newEntry .state 8 (s.configured image).statePayload] := by
  have hlink : (s.configured image).link = s.link := by simp [State.configured]
  have hservice : (s.configured image).service = s.service := by simp [State.configured]
  have hoffer := State.offer_of_empty (s := { s.configured image with
    link := { (s.configured image).link with stateTimer := 20 } })
    (e := newEntry .state 8 (s.configured image).statePayload)
    (by rw [hlink]; exact hq) (by rw [hlink]; exact hl)
  have hconf : s.configure image = _ := hoffer
  rw [hconf]
  exact ⟨hservice, Link.updateShed_queue _⟩

/-- Settles O7: the default image by its figures; then by whether an image is held, and by the check that fails first. -/
theorem imageIsHeldOrReplaced : Obligations.ImageIsHeldOrReplaced := by
  refine ⟨rfl, fun image s n hn => ⟨fun hheld => ?_, fun hnone => ⟨s.configure image, ?_, ?_, ?_, ?_, ?_, ?_⟩⟩⟩
  · exact next_of_not_due (by simpa using hheld)
  · exact next_of_due (by simpa using hnone)
  all_goals obtain ⟨hstart, hfaults, hlevel, hcfg, hpayload⟩ := s.configure_configured image
  · exact s.configure_blocks image
  · rw [hstart, hfaults, hn, ← s.readStraps_own]
    refine ⟨imageFault s.readStraps.own image, imageFault_checked _ image, fun hgood => ?_, fun q hbad => ?_⟩
    · rw [State.holdImage_of_good hgood]
      exact ⟨_, parseImage_holds hgood, rfl, rfl⟩
    · rw [State.holdImage_of_bad hbad]
      exact ⟨rfl, rfl⟩
  · rw [hlevel, hcfg]
    exact s.configured_levelling image
  · exact s.configure_stateTimer image
  · intro hq hl
    obtain ⟨hservice, hqueue⟩ := State.configure_first hq hl image
    rw [hpayload]
    exact ⟨hservice.symm, hqueue⟩

end Sys2Proof.Machine
end

section
/-! PROOFS. Levelling's corners and air windows: what the stages of a period do to a corner and to the window, and the
statements on the window start and on the counts that reach their ends. -/

namespace Sys2Proof.Machine

variable {s : State} {side : Side} {c : Corner}

/-! ### Corners -/

@[simp] theorem otherSide_otherSide (side : Side) : otherSide (otherSide side) = side := by cases side <;> rfl

theorem eq_or_eq_otherSide (a b : Side) : a = b ∨ a = otherSide b := by cases a <;> cases b <;> decide

@[simp] theorem State.corner_putCorner (s : State) (side : Side) (c : Corner) : (s.putCorner side c).corner side = c :=
  atSide_putSide _ _ _

@[simp] theorem State.corner_putCorner_other (s : State) (side : Side) (c : Corner) :
    (s.putCorner side c).corner (otherSide side) = s.corner (otherSide side) :=
  atSide_putSide_other _ _ _

@[simp] theorem State.putCorner_cfg (s : State) (side : Side) (c : Corner) : (s.putCorner side c).cfg = s.cfg := rfl

@[simp] theorem State.putCorner_sliceLeft (s : State) (side : Side) (c : Corner) :
    (s.putCorner side c).sliceLeft = s.sliceLeft := rfl

/-! ### Counts against the deadband (R114) -/

theorem Corner.countBand_of_in {e : Int} {deadband : Nat} (h : e.natAbs ≤ deadband) (c : Corner) :
    c.countBand e deadband = { c with
      err := some e
      inBand := min 20 (c.inBand + 1)
      outBand := 0
      locked := min 20 (c.inBand + 1) == 20 } := by
  simp only [Corner.countBand, if_pos h, growTo_eq_min]

theorem Corner.countBand_of_out {e : Int} {deadband : Nat} (h : deadband < e.natAbs) (c : Corner) :
    c.countBand e deadband = { c with
      err := some e
      inBand := 0
      outBand := min 200 (c.outBand + 1)
      locked := false } := by
  simp only [Corner.countBand, if_neg (Nat.not_le.2 h), growTo_eq_min]

/-! ### Who holds and who acts (R115) -/

theorem State.holds_iff (s : State) (side : Side) :
    s.holds side = true ↔ s.cornerHolds side (s.corner side).height.valid := by
  simp [State.holds, State.cornerHolds, or_assoc]

theorem State.airAllowed_iff (s : State) : s.airAllowed = true ↔ s.airFlows s.levelling.band := by
  simp [State.airAllowed, State.airFlows, or_assoc]

theorem State.acts_iff (s : State) (side : Side) : s.acts side = true ↔
    ¬s.cornerHolds side (s.corner side).height.valid ∧ (s.ladder.mode ≠ .drive ∨ 200 ≤ (s.corner side).outBand) := by
  simp [State.acts, State.waits, ← s.holds_iff]

/-! ### A corner served (R116, R126) -/

/-- A corner's valve, as it calls for fill, is given a slice, or exhausts. -/
def Corner.served (c : Corner) (calls slice exhausts : Bool) : Corner :=
  { c with
    calls
    starved := calls && !slice
    valve := if calls then (if slice then .fill else .closed) else if exhausts then .exhaust else .closed }

theorem State.serveCorner_eq (s : State) (side : Side) : s.serveCorner side = State.putCorner
    { s with levelling := { s.levelling with
        used := s.levelling.used + if s.callsFill side = true ∧ s.sliceLeft = true then 1 else 0 } }
    side ((s.corner side).served (s.callsFill side) s.sliceLeft (s.exhausts side)) := by
  unfold State.serveCorner Corner.served
  cases s.callsFill side <;> cases s.sliceLeft <;> rfl

@[simp] theorem State.corner_serveCorner (s : State) (side : Side) : (s.serveCorner side).corner side =
    (s.corner side).served (s.callsFill side) s.sliceLeft (s.exhausts side) := by
  rw [State.serveCorner_eq, State.corner_putCorner]

/-- A corner that acts calls for fill above the deadband and exhausts below it. -/
theorem State.serveCorner_of_acts (ha : s.acts side = true) {e : Int} (he : (s.corner side).err = some e) :
    (s.serveCorner side).corner side = (s.corner side).served (decide ((s.cfg.deadband : Int) < e)) s.sliceLeft
      (decide (e < -(s.cfg.deadband : Int))) := by
  simp [State.callsFill, State.exhausts, ha, Corner.error, he]

@[simp] theorem State.corner_serveCorner_other (s : State) (side : Side) :
    (s.serveCorner side).corner (otherSide side) = s.corner (otherSide side) := by
  rw [State.serveCorner_eq, State.corner_putCorner_other]
  rfl

@[simp] theorem State.corner_noteValve (s : State) (side : Side) : (s.noteValve side).corner side =
    { s.corner side with valveSeen := (s.corner side).valve } :=
  s.corner_putCorner side _

@[simp] theorem State.corner_noteValve_other (s : State) (side : Side) :
    (s.noteValve side).corner (otherSide side) = s.corner (otherSide side) :=
  s.corner_putCorner_other side _

/-! ### The raise timer (R121) -/

theorem State.runRaiseTimer_eq (s : State) : s.runRaiseTimer = { s with
    levelling := { s.levelling with
      raiseTimer := if s.ladder.mode = .raise then min 20000 (s.levelling.raiseTimer + 10) else 0 }
    faults := if s.ladder.mode ≠ .raise then s.faults.finish .raiseSlow 0
      else if s.levelling.raiseTimer < 20000 ∧ 19990 ≤ s.levelling.raiseTimer then s.faults.raise .raiseSlow 0
      else s.faults } := by
  have hfull : min 20000 (s.levelling.raiseTimer + 10) = 20000 ↔ 19990 ≤ s.levelling.raiseTimer := by omega
  simp only [State.runRaiseTimer, growTo_eq_min, beq_iff_eq, Bool.and_eq_true, decide_eq_true_eq, hfull]
  by_cases hm : s.ladder.mode = .raise
  · simp only [hm, if_true, ne_eq, not_true, if_false]
    split <;> rfl
  · simp only [hm, if_false, ne_eq, not_false_eq_true, if_true]
    rfl

/-! ### The window (R124, R125) -/

theorem State.windowDue_eq (s : State) : s.windowDue = s.windowFalls := by
  rw [Bool.eq_iff_iff]
  cases h : s.levelling.started <;> simp [State.windowDue, State.windowFalls, h]

/-- The figures of the window that starts. -/
theorem State.startWindow_starts (s : State) : s.WindowStarts s.levelling s.startWindow.levelling where
  fillers := rfl
  abundant h := by simp [State.startWindow, State.allowanceNow, h]
  scarce h := by rcases h with h | h <;> simp [State.startWindow, State.allowanceNow, h]
  entered hb hn := by
    have hnew : (s.levelling.limitedNew || !s.levelling.started) = true := by simpa using hn
    simp only [State.startWindow, State.allowanceNow, hb, hnew, if_true]
    rcases s.levelling.limitedFrom with _ | (_ | _ | _) <;> rfl
  hunting hb hnew hstarted b v hbefore hnow := by
    simp [State.startWindow, State.allowanceNow, hb, hnew, hstarted, hbefore, hnow, hunt]
  shares h := by
    have hopen : (s.levelling.band == some .scarce && !reserveMode s.ladder.mode) = false := by
      rcases h with h | h | h <;> simp [h, reserveMode]
    simp only [State.startWindow, State.shareNow, hopen, Bool.false_eq_true, if_false]
  withheld hb hr hk := by simp [State.startWindow, State.shareNow, reserveMode, hb, hr, hk]
  begins := ⟨rfl, rfl, rfl, rfl, rfl⟩

/-- Settles O39: a window that is due starts with its figures; otherwise nothing. -/
theorem airWindowSharesTheAllowance : Obligations.AirWindowSharesTheAllowance := fun s hl =>
  ⟨fun hdue => ⟨s.startWindow, next_of_due (by simp [hl, s.windowDue_eq, hdue]), rfl, s.startWindow_starts⟩,
    fun hdue => next_of_not_due (by simp [s.windowDue_eq, hdue]), fun n _ => s.peerReads n⟩

/-! ### The counts that reach their ends (R114, R115, R121) -/

section
variable {e : Int} (hl : s.loaded = true) (hv : (s.corner side).height.valid = true)
  (he : (s.corner side).err = some e)
include hl hv he

theorem State.lockDue_of_err (hin : e.natAbs ≤ s.cfg.deadband) (hcount : (s.corner side).inBand = 19) :
    s.lockDue side = true := by
  simp [State.lockDue, hl, hv, he, hin, hcount]

theorem State.outOfBandDue_of_err (hout : s.cfg.deadband < e.natAbs) (hcount : (s.corner side).outBand = 199) :
    s.outOfBandDue side = true := by
  simp [State.outOfBandDue, hl, hv, he, hout, hcount]

end

theorem State.raiseSlowDue_of_full (hl : s.loaded = true) (hm : s.ladder.mode = .raise)
    (ht : 19990 ≤ s.levelling.raiseTimer) : s.raiseSlowDue = true := by
  simp [State.raiseSlowDue, hl, hm, show 20000 ≤ s.levelling.raiseTimer + 10 by omega]

/-- In DRIVE a corner holds for a coil that has failed, its sensor or a sweep alone, and acts at 200 periods. -/
theorem State.acts_in_drive (hm : s.ladder.mode = .drive) (hs : s.sweeping = false)
    (hfill : s.coilFailed (cornerCoils side).1 = false) (hexhaust : s.coilFailed (cornerCoils side).2 = false)
    (hv : (s.corner side).height.valid = true) (hcount : 200 ≤ (s.corner side).outBand) : s.acts side = true :=
  (s.acts_iff side).2 ⟨by simp [State.cornerHolds, hm, hs, hfill, hexhaust, hv], .inr hcount⟩

/-- The corner whose count has reached 200 is served by its error's sign (R115, R116). -/
theorem State.serveCorner_of_full (ha : (s.putCorner side c).acts side = true) {e : Int} (he : c.err = some e) :
    ((s.putCorner side c).serveCorner side).corner side = c.served (decide ((s.cfg.deadband : Int) < e)) s.sliceLeft
      (decide (e < -(s.cfg.deadband : Int))) := by
  have h := State.serveCorner_of_acts ha (e := e) (by rw [State.corner_putCorner, he])
  rwa [State.corner_putCorner, State.putCorner_cfg, State.putCorner_sliceLeft] at h

/-- Settles O40: at the counts 19, 199 and 19,990 ms the commands' guards hold; the corner that acts is served by its
error's sign. -/
theorem levellingCountsReachTheirLimits : Obligations.LevellingCountsReachTheirLimits := by
  refine fun s hl => ⟨fun side e hv he hin hcount => ?_, fun side e hv he hout hcount hm hs hfill hexhaust => ?_,
    fun hm hlt hge => ?_⟩
  · refine (next_of_due (State.lockDue_of_err hl hv he hin hcount)).trans ?_
    simp [Corner.error, he, Corner.countBand_of_in hin, hcount]
  · have hcounted : (s.corner side).countBand (s.corner side).error s.cfg.deadband = { s.corner side with
        inBand := 0
        outBand := 200
        locked := false } := by
      simp [Corner.error, he, Corner.countBand_of_out hout, hcount]
    refine ⟨_, next_of_due (State.outOfBandDue_of_err hl hv he hout hcount), ?_⟩
    rw [hcounted]
    have hserved := State.serveCorner_of_full (State.acts_in_drive (s := s.putCorner side { s.corner side with
        inBand := 0
        outBand := 200
        locked := false }) hm hs hfill hexhaust (by simpa using hv) (by simp)) (by exact he)
    rw [State.corner_noteValve, State.corner_noteValve_other, State.corner_serveCorner_other,
      State.corner_putCorner_other, hserved]
    refine ⟨by apply State.eq_of_blocks <;> simp, rfl, rfl, rfl, rfl, fun hneg => ?_,
      fun hpos => ⟨?_, fun hb hslice => ?_⟩⟩
    · simp [Corner.served, show ¬(s.cfg.deadband : Int) < e by omega, show e < -(s.cfg.deadband : Int) by omega]
    · simp [Corner.served, show (s.cfg.deadband : Int) < e by omega]
    · simp [Corner.served, show (s.cfg.deadband : Int) < e by omega, State.sliceLeft, State.airAllowed, hb, hslice]
  · refine (next_of_due (State.raiseSlowDue_of_full hl hm hge)).trans ?_
    rw [State.runRaiseTimer_eq, if_pos hm, if_neg (by simp [hm]), if_pos ⟨hlt, hge⟩]
    simp [show 20000 ≤ s.levelling.raiseTimer + 10 by omega]

end Sys2Proof.Machine
end

section
/-! PROOFS. The stages of a levelling period: what each writes, as a function of the state it finds. -/

namespace Sys2Proof.Machine

variable {s : State} {side : Side} {c : Corner} {r : LevelReadings}

/-! ### Stage 1: sensors (R110, R111, R118, R122) -/

/-- The corner after stage 1 of a period with these readings. -/
def Corner.readAs (c : Corner) (height : Option Int) (bellows : Option Nat) : Corner :=
  { c.withHeight (c.height.read height).1 with bellows := (c.bellows.read bellows).1 }

@[simp] theorem Corner.readAs_frame (c : Corner) (height : Option Int) (bellows : Option Nat) :
    (c.readAs height bellows).height = (c.height.read height).1 ∧
    (c.readAs height bellows).bellows = (c.bellows.read bellows).1 ∧ (c.readAs height bellows).trim = c.trim ∧
    (c.readAs height bellows).target = c.target := by
  unfold Corner.readAs Corner.withHeight
  split <;> exact ⟨rfl, rfl, rfl, rfl⟩

theorem Corner.readAs_of_excluded {height : Option Int} (h : (c.height.read height).1.valid = false)
    (bellows : Option Nat) : c.readAs height bellows = { c with
      height := (c.height.read height).1
      bellows := (c.bellows.read bellows).1
      h := none
      err := none
      inBand := 0
      outBand := 0
      locked := false
      calls := false
      starved := false
      valve := .closed } := by
  simp [Corner.readAs, Corner.withHeight, h]

theorem Corner.readAs_of_valid {height : Option Int} (h : (c.height.read height).1.valid = true)
    (bellows : Option Nat) : c.readAs height bellows = { c with
      height := (c.height.read height).1
      bellows := (c.bellows.read bellows).1
      h := (c.height.read height).1.value.map fun raw => heightAbove raw c.trim } := by
  simp [Corner.readAs, Corner.withHeight, h]

/-- The corner of a side after stage 1. -/
def State.cornerRead (s : State) (r : LevelReadings) (side : Side) : Corner :=
  (s.corner side).readAs (heightReading (atSide r.height side)) (bellowsReading (atSide r.bellows side))

/-- The heights' faults are reported before the bellows', the supply sensor's last (log entry 34). -/
def State.levelFaults (s : State) (r : LevelReadings) : FaultList :=
  let f := (((s.faults.afterReading (s.corner .left).height (heightReading r.height.left) .heightSensor 0).afterReading
    (s.corner .right).height (heightReading r.height.right) .heightSensor 1).afterReading
    (s.corner .left).bellows (bellowsReading r.bellows.left) .pressureSensor 2).afterReading
    (s.corner .right).bellows (bellowsReading r.bellows.right) .pressureSensor 3
  if s.cfg.supplyFitted = true then f.afterReading s.levelling.supply (supplyReading r.supply) .supplySensor 0 else f

/-- The supply sensor after stage 1. -/
def State.supplyRead (s : State) (r : LevelReadings) : Sensor Nat :=
  if s.cfg.supplyFitted = true then (s.levelling.supply.read (supplyReading r.supply)).1 else s.levelling.supply

theorem State.readHeight_eq (s : State) (side : Side) (v : Microvolt) : s.readHeight side v = { s with
    levelling := { s.levelling with
      corners := putSide s.levelling.corners ((s.corner side).withHeight
        ((s.corner side).height.read (heightReading v)).1) side }
    faults := s.faults.afterReading (s.corner side).height (heightReading v) .heightSensor (sideNumber side) } :=
  State.sensorFault_read _ _ _ _ _

theorem State.readBellows_eq (s : State) (side : Side) (v : Microvolt) : s.readBellows side v = { s with
    levelling := { s.levelling with
      corners := putSide s.levelling.corners { s.corner side with
        bellows := ((s.corner side).bellows.read (bellowsReading v)).1 } side }
    faults := s.faults.afterReading (s.corner side).bellows (bellowsReading v) .pressureSensor (2 + sideNumber side) } :=
  State.sensorFault_read _ _ _ _ _

theorem State.readSupply_eq (s : State) (v : Microvolt) : s.readSupply v = { s with
    levelling := { s.levelling with
      supply := if s.cfg.supplyFitted = true then (s.levelling.supply.read (supplyReading v)).1 else s.levelling.supply }
    faults := if s.cfg.supplyFitted = true then
        s.faults.afterReading s.levelling.supply (supplyReading v) .supplySensor 0
      else s.faults } := by
  unfold State.readSupply
  split
  · exact State.sensorFault_read _ _ _ _ _
  · rfl

theorem Corner.withHeight_bellows (c : Corner) (q : Sensor Int) : (c.withHeight q).bellows = c.bellows := by
  unfold Corner.withHeight
  split <;> rfl

theorem State.levelStage1_eq (s : State) (r : LevelReadings) : s.levelStage1 r = { s with
    levelling := { s.levelling with
      corners := ⟨s.cornerRead r .left, s.cornerRead r .right⟩
      supply := s.supplyRead r }
    faults := s.levelFaults r } := by
  simp only [State.levelStage1, State.readHeight_eq, State.readBellows_eq, State.readSupply_eq, State.corner, putSide,
    atSide, Corner.withHeight_bellows]
  rfl

/-! ### Stage 2: supply value and air band (R122, R123) -/

theorem lowerOf_eq_some {a b : Option Nat} {p : Nat} (h : lowerOf a b = some p) : a = some p ∨ b = some p := by
  match a, b with
  | none, _ => exact .inr h
  | some _, none => exact .inl h
  | some x, some y =>
    have hmin : min x y = p := Option.some.inj h
    rcases min_choice x y with hx | hy
    · exact .inl (congrArg some (hx.symm.trans hmin))
    · exact .inr (congrArg some (hy.symm.trans hmin))

theorem lowerOf_le (a b : Option Nat) {x : Nat} (h : a = some x ∨ b = some x) : ∃ p, lowerOf a b = some p ∧ p ≤ x := by
  match a, b with
  | none, _ => exact ⟨x, h.resolve_left nofun, le_rfl⟩
  | some y, none => exact ⟨x, h.resolve_right nofun, le_rfl⟩
  | some y, some z =>
    refine ⟨_, rfl, ?_⟩
    rcases h with h | h
    · exact (min_le_left y z).trans_eq (Option.some.inj h)
    · exact (min_le_right y z).trans_eq (Option.some.inj h)

/-- The lowest of the figures is one of them. -/
theorem foldl_lowerOf_mem {l : List (Option Nat)} {a : Option Nat} {p : Nat} (h : l.foldl lowerOf a = some p) :
    a = some p ∨ some p ∈ l := by
  induction l generalizing a with
  | nil => exact .inl h
  | cons b l ih =>
    rcases ih h with hab | hmem
    · exact (lowerOf_eq_some hab).imp_right fun hb => List.mem_cons.2 (.inl hb.symm)
    · exact .inr (List.mem_cons_of_mem _ hmem)

/-- The lowest of the figures is at or below each. -/
theorem foldl_lowerOf_le {l : List (Option Nat)} {a : Option Nat} {x : Nat} (h : a = some x ∨ some x ∈ l) :
    ∃ p, l.foldl lowerOf a = some p ∧ p ≤ x := by
  induction l generalizing a x with
  | nil => exact ⟨x, h.resolve_right List.not_mem_nil, le_rfl⟩
  | cons b l ih =>
    have hhead : (a = some x ∨ b = some x) ∨ some x ∈ l := by
      rcases h with h | h
      · exact .inl (.inl h)
      · exact (List.mem_cons.1 h).imp_left fun hb => .inr hb.symm
    rcases hhead with hab | hmem
    · obtain ⟨y, hy, hyx⟩ := lowerOf_le a b hab
      obtain ⟨p, hp, hpy⟩ := ih (.inl hy)
      exact ⟨p, hp, hpy.trans hyx⟩
    · exact ih (.inr hmem)

theorem bandAfter_moves (before : Option Band) (value : Option Nat) :
    BandMoves before value (bandAfter before value) where
  noValue h := by rw [h]; rfl
  low p h hlt := by
    have hfar : ¬730 ≤ p ∧ ¬900 ≤ p := by omega
    rcases before with _ | (_ | _ | _) <;> simp [bandAfter, h, hlt, hfar]
  high p h hle := by
    have hfar : ¬p < 700 ∧ ¬p < 870 := by omega
    rcases before with _ | (_ | _ | _) <;> simp [bandAfter, h, hle, hfar]
  fromScarce p h hge hlt hb := by simp [bandAfter, h, hb, Nat.not_le.2 hlt]
  fromAbundant p h hge hlt hb := by
    simp only [bandAfter, h, hb, Nat.not_lt.2 hge, if_false, ← Nat.not_le (a := 870), ite_not]
  between p h hge hlt hb := by
    rcases hb with hb | hb <;> simp [bandAfter, h, hb, Nat.not_le.2 hlt, Nat.not_lt.2 hge]

/-! ### Stage 4: targets, errors and locks (R113, R114) -/

@[simp] theorem Corner.retarget_frame (c : Corner) (target : Int) :
    (c.retarget target).height = c.height ∧ (c.retarget target).bellows = c.bellows ∧
    (c.retarget target).trim = c.trim ∧ (c.retarget target).h = c.h ∧ (c.retarget target).err = c.err ∧
    (c.retarget target).target = target ∧
    (c.retarget target).inBand = (if target = c.target then c.inBand else 0) ∧
    (c.retarget target).outBand = (if target = c.target then c.outBand else 0) ∧
    (c.locked = false → (c.retarget target).locked = false) := by
  unfold Corner.retarget
  by_cases h : c.target = target
  · simp [h]
  · simp [h, Ne.symm h]

/-- The corner after stage 4. -/
def Corner.tested (c : Corner) (target : Int) (deadband : Nat) : Corner :=
  match c.h with
  | some h => if c.height.valid then (c.retarget target).countBand (target - h) deadband else c.retarget target
  | none => c.retarget target

theorem State.lockTest_eq (s : State) (side : Side) :
    s.lockTest side = s.putCorner side ((s.corner side).tested (s.cornerTarget side) s.cfg.deadband) := by
  cases h : (s.corner side).h with
  | none => simp [State.lockTest, Corner.tested, h]
  | some x =>
    simp only [State.lockTest, Corner.tested, Corner.retarget_frame, h]
    split <;> rfl

theorem Corner.countBand_frame (c : Corner) (e : Int) (deadband : Nat) :
    (c.countBand e deadband).height = c.height ∧ (c.countBand e deadband).bellows = c.bellows ∧
    (c.countBand e deadband).trim = c.trim ∧ (c.countBand e deadband).h = c.h ∧
    (c.countBand e deadband).target = c.target := by
  unfold Corner.countBand
  split <;> exact ⟨rfl, rfl, rfl, rfl, rfl⟩

theorem Corner.countBand_err (c : Corner) (e : Int) (deadband : Nat) : (c.countBand e deadband).err = some e := by
  unfold Corner.countBand
  split <;> rfl

@[simp] theorem Corner.tested_frame (c : Corner) (target : Int) (deadband : Nat) :
    (c.tested target deadband).height = c.height ∧ (c.tested target deadband).bellows = c.bellows ∧
    (c.tested target deadband).trim = c.trim ∧ (c.tested target deadband).h = c.h ∧
    (c.tested target deadband).target = target := by
  unfold Corner.tested
  split
  · split <;> simp [Corner.countBand_frame]
  · simp

/-- An excluded corner counts nothing (R111). -/
theorem Corner.tested_of_excluded {height : Option Int} (h : (c.height.read height).1.valid = false)
    (bellows : Option Nat) (target : Int) (deadband : Nat) {d : Corner}
    (hd : d = (c.readAs height bellows).tested target deadband) :
    d.h = none ∧ d.err = none ∧ d.inBand = 0 ∧ d.outBand = 0 ∧ d.locked = false := by
  subst hd
  simp [Corner.readAs_of_excluded h, Corner.tested]

/-- A VALID corner with a reading counts the period against its error (R113, R114). -/
theorem Corner.tested_of_valid {height : Option Int} (h : (c.height.read height).1.valid = true) {raw : Int}
    (hraw : (c.height.read height).1.value = some raw) (bellows : Option Nat) {target e : Int} (deadband : Nat)
    (he : e = target - clampInt (-150) 150 (raw - c.trim)) {d : Corner}
    (hd : d = (c.readAs height bellows).tested target deadband) :
    d.h = some (clampInt (-150) 150 (raw - c.trim)) ∧ d.err = some e ∧
    (e.natAbs ≤ deadband → d.outBand = 0 ∧ d.inBand = min 20 ((if target = c.target then c.inBand else 0) + 1) ∧
      (d.locked = true ↔ d.inBand = 20)) ∧
    (deadband < e.natAbs → d.inBand = 0 ∧
      d.outBand = min 200 ((if target = c.target then c.outBand else 0) + 1) ∧ d.locked = false) := by
  have htested : d = ((c.readAs height bellows).retarget target).countBand e deadband := by
    rw [hd, he]
    simp [Corner.readAs_of_valid h, Corner.tested, h, hraw, heightAbove]
  obtain ⟨-, -, -, htarget⟩ := c.readAs_frame height bellows
  obtain ⟨-, -, -, hh, -, -, hin, hout, -⟩ := (c.readAs height bellows).retarget_frame target
  obtain ⟨-, -, -, hband, -⟩ := ((c.readAs height bellows).retarget target).countBand_frame e deadband
  have hcounts : (c.readAs height bellows).inBand = c.inBand ∧ (c.readAs height bellows).outBand = c.outBand := by
    rw [Corner.readAs_of_valid h]
    exact ⟨rfl, rfl⟩
  rw [hcounts.1, htarget] at hin
  rw [hcounts.2, htarget] at hout
  refine ⟨?_, ?_, fun hin' => ?_, fun hout' => ?_⟩
  · rw [htested, hband, hh, Corner.readAs_of_valid h, hraw]
    rfl
  · rw [htested]
    exact Corner.countBand_err _ _ _
  · rw [htested, Corner.countBand_of_in hin', ← hin]
    exact ⟨rfl, rfl, beq_iff_eq⟩
  · rw [htested, Corner.countBand_of_out hout', ← hout]
    exact ⟨rfl, rfl, rfl⟩

/-! ### Stage 5: the slices (R116, R126) -/

theorem State.sliceLeft_iff (s : State) :
    s.sliceLeft = true ↔ s.airFlows s.levelling.band ∧ s.levelling.used < s.levelling.limit := by
  simp [State.sliceLeft, ← s.airAllowed_iff]

/-- A corner's call for fill and its exhausting do not depend on what the other corner was given. -/
theorem State.calls_serveCorner_other (s : State) (side : Side) :
    (s.serveCorner side).callsFill (otherSide side) = s.callsFill (otherSide side) ∧
    (s.serveCorner side).exhausts (otherSide side) = s.exhausts (otherSide side) := by
  rw [State.serveCorner_eq]
  cases side <;> exact ⟨rfl, rfl⟩

theorem State.serveCorner_used (s : State) (side : Side) : (s.serveCorner side).levelling.used =
    s.levelling.used + if s.callsFill side = true ∧ s.sliceLeft = true then 1 else 0 := by
  rw [State.serveCorner_eq]
  rfl

theorem State.sliceLeft_serveCorner (s : State) (side : Side) : (s.serveCorner side).sliceLeft = true ↔
    s.airFlows s.levelling.band ∧
      s.levelling.used + (if s.callsFill side = true ∧ s.sliceLeft = true then 1 else 0) < s.levelling.limit := by
  rw [State.serveCorner_eq]
  exact State.sliceLeft_iff _

/-- A slice is left for a corner when its turn comes. -/
def State.sliceAtTurn (s : State) (side : Side) : Bool :=
  if side = s.firstServed then s.sliceLeft else (s.serveCorner s.firstServed).sliceLeft

theorem State.corner_levelStage5 (s : State) (side : Side) : s.levelStage5.corner side =
    (s.corner side).served (s.callsFill side) (s.sliceAtTurn side) (s.exhausts side) := by
  obtain ⟨hcalls, hexhausts⟩ := s.calls_serveCorner_other s.firstServed
  rcases eq_or_eq_otherSide side s.firstServed with h | h
  · have hfirst := (s.serveCorner s.firstServed).corner_serveCorner_other (otherSide s.firstServed)
    rw [otherSide_otherSide, State.corner_serveCorner] at hfirst
    rw [State.levelStage5, State.sliceAtTurn, if_pos h, h, hfirst]
  · have hne : otherSide s.firstServed ≠ s.firstServed := by cases s.firstServed <;> decide
    rw [State.levelStage5, State.sliceAtTurn, h, if_neg hne, State.corner_serveCorner, State.corner_serveCorner_other,
      hcalls, hexhausts]

theorem State.levelStage5_levelling (s : State) : s.levelStage5.levelling = { s.levelling with
    corners := ⟨s.levelStage5.corner .left, s.levelStage5.corner .right⟩
    used := s.levelStage5.levelling.used } := by
  simp only [State.levelStage5, State.serveCorner_eq]
  rfl

theorem Corner.served_fill_iff (c : Corner) (calls slice exhausts : Bool) :
    (c.served calls slice exhausts).valve = .fill ↔ calls = true ∧ slice = true := by
  cases calls <;> cases slice <;> cases exhausts <;> simp [Corner.served]

/-- Every slice used in the period opened a fill valve. -/
theorem State.levelStage5_used (s : State) : s.levelStage5.levelling.used = s.levelling.used +
    (if (s.levelStage5.corner .left).valve = .fill then 1 else 0) +
    (if (s.levelStage5.corner .right).valve = .fill then 1 else 0) := by
  obtain ⟨hcalls, -⟩ := s.calls_serveCorner_other s.firstServed
  have hsum : s.levelStage5.levelling.used = s.levelling.used +
      (if s.callsFill s.firstServed = true ∧ s.sliceAtTurn s.firstServed = true then 1 else 0) +
      (if s.callsFill (otherSide s.firstServed) = true ∧ s.sliceAtTurn (otherSide s.firstServed) = true then 1
        else 0) := by
    have hne : otherSide s.firstServed ≠ s.firstServed := by cases s.firstServed <;> decide
    rw [State.sliceAtTurn, State.sliceAtTurn, if_pos rfl, if_neg hne, State.levelStage5, State.serveCorner_used,
      State.serveCorner_used, hcalls]
  simp only [hsum, State.corner_levelStage5, Corner.served_fill_iff]
  cases s.firstServed with
  | left => rfl
  | right => exact Nat.add_right_comm _ _ _

theorem State.err_of_callsFill (h : s.callsFill side = true) : ∃ e, (s.corner side).err = some e := by
  cases he : (s.corner side).err with
  | some e => exact ⟨e, rfl⟩
  | none => simp [State.callsFill, Corner.error, he, Int.not_lt.2 (Int.natCast_nonneg _)] at h

/-- When the turn of a corner that calls comes, the other one has had its slice if it calls and is served first. -/
theorem State.sliceAtTurn_iff (s : State) (side : Side) : s.sliceAtTurn side = true ↔
    s.airFlows s.levelling.band ∧
      s.levelling.used + (if side ≠ s.firstServed ∧ s.callsFill s.firstServed = true then 1 else 0) <
        s.levelling.limit := by
  unfold State.sliceAtTurn
  by_cases hside : side = s.firstServed
  · simp [hside, s.sliceLeft_iff]
  · rw [if_neg hside, State.sliceLeft_serveCorner]
    refine and_congr_right fun hair => ?_
    by_cases hcalls : s.callsFill s.firstServed = true
    · simp only [s.sliceLeft_iff, hcalls, hair, hside, true_and, and_self, ne_eq, not_false_eq_true, if_true]
      split <;> omega
    · simp [hcalls]

theorem State.ne_firstServed_iff (s : State) (side : Side) : side ≠ s.firstServed ↔
    (s.corner side).error < (s.corner (otherSide side)).error ∨
      ((s.corner side).error = (s.corner (otherSide side)).error ∧ s.cfg.kerb = otherSide side) := by
  simp only [State.firstServed]
  cases side <;> cases s.cfg.kerb <;> simp [otherSide] <;> omega

theorem eq_otherSide_of_ne {a b : Side} (h : a ≠ b) : b = otherSide a := by
  cases a <;> cases b <;> simp_all [otherSide]

/-- The corner that goes for its slice after the other, in the terms of the statement (R116). -/
theorem State.servedAfter_iff {t : State} (hcalls : ∀ a, (t.corner a).calls = s.callsFill a)
    (herr : ∀ a, (t.corner a).err = (s.corner a).err) (hcfg : t.cfg = s.cfg) (h : s.callsFill side = true) :
    t.servedAfter side = true ↔ side ≠ s.firstServed ∧ s.callsFill s.firstServed = true := by
  obtain ⟨e, he⟩ := State.err_of_callsFill h
  simp only [State.servedAfter, decide_eq_true_eq, hcalls, herr, hcfg]
  constructor
  · rintro ⟨hother, horder⟩
    obtain ⟨x, hx⟩ := State.err_of_callsFill hother
    have hne : side ≠ s.firstServed := (s.ne_firstServed_iff side).2 (by simpa [Corner.error, he, hx] using horder)
    exact ⟨hne, eq_otherSide_of_ne hne ▸ hother⟩
  · rintro ⟨hne, hfirst⟩
    rw [eq_otherSide_of_ne hne] at hfirst
    obtain ⟨x, hx⟩ := State.err_of_callsFill hfirst
    exact ⟨hfirst, by simpa [Corner.error, he, hx] using (s.ne_firstServed_iff side).1 hne⟩

/-! ### Stage 7 and the whole period (R112, R119, R121, R128) -/

theorem State.measureLoad_eq (s : State) :
    s.measureLoad = { s with levelling := { s.levelling with load := s.measureLoad.levelling.load } } := by
  unfold State.measureLoad
  split
  · split <;> rfl
  · rfl

theorem loadOf_eq (unsprung kload pL pR : Nat) :
    loadOf unsprung kload pL pR = min 2000 (unsprung + (pL + pR) * kload / 256) := by
  rw [loadOf, clampNat, if_neg (Nat.not_lt.2 (Nat.le_add_right _ _))]
  split <;> omega

theorem State.measureLoad_of_closed (hlast : s.levelling.closedLast = true) (hclosed : s.valvesClosed = true)
    (hs : s.sweeping = false) (hl : (s.corner .left).bellows.valid = true) (hr : (s.corner .right).bellows.valid = true)
    {pL pR : Nat} (hpL : (s.corner .left).bellows.value = some pL) (hpR : (s.corner .right).bellows.value = some pR) :
    s.measureLoad.levelling.load = min 2000 (s.cfg.unsprung + (pL + pR) * s.cfg.kload / 256) := by
  simp only [State.corner, atSide] at hl hr hpL hpR
  simp only [State.measureLoad, hlast, hclosed, hs, hl, hr, hpL, hpR, Bool.and_self, Bool.not_false,
    loadOf_eq, if_true]

theorem State.measureLoad_of_open (h : s.levelling.closedLast = false ∨ s.valvesClosed = false ∨ s.sweeping = true ∨
    (s.corner .left).bellows.valid = false ∨ (s.corner .right).bellows.valid = false) :
    s.measureLoad.levelling.load = s.levelling.load := by
  simp only [State.corner, atSide] at h
  rcases h with h | h | h | h | h <;> simp [State.measureLoad, h]

/-- The corner as a period leaves it, its valve and trim noted for the SNAPSHOT (R129). -/
def Corner.noted (c : Corner) : Corner :=
  { c with
    valveSeen := c.valve
    trimSeen := c.trim }

/-- Stage 7, with what the period notes. -/
def State.closePeriod (s : State) : State :=
  { s with
    levelling := { s.levelling with
      corners := ⟨(s.corner .left).noted, (s.corner .right).noted⟩
      load := s.measureLoad.levelling.load
      closedLast := s.valvesClosed
      filling := ((s.corner .left).calls || (s.corner .right).calls) && s.airAllowed
      raiseTimer := if s.ladder.mode = .raise then min 20000 (s.levelling.raiseTimer + 10) else 0 }
    faults := if s.ladder.mode ≠ .raise then s.faults.finish .raiseSlow 0
      else if s.levelling.raiseTimer < 20000 ∧ 19990 ≤ s.levelling.raiseTimer then s.faults.raise .raiseSlow 0
      else s.faults }

theorem State.noteValves_eq (s : State) : s.noteValves = { s with levelling := { s.levelling with
    corners := ⟨{ s.corner .left with valveSeen := (s.corner .left).valve },
      { s.corner .right with valveSeen := (s.corner .right).valve }⟩
    closedLast := s.valvesClosed } } := rfl

theorem State.closePeriod_eq (s : State) :
    s.measureLoad.noteValves.setFilling.runRaiseTimer.noteTrims = s.closePeriod := by
  rw [State.measureLoad_eq, State.closePeriod]
  generalize s.measureLoad.levelling.load = load
  rw [State.noteValves_eq, State.setFilling, State.runRaiseTimer_eq, State.noteTrims]
  rfl

/-- The state in which stage 4 of a period is taken. -/
def State.windowed (s : State) (r : LevelReadings) : State := (s.levelStage1 r).levelStage2.levelStage3

/-- The state in which stage 5 of a period is taken. -/
def State.lockTested (s : State) (r : LevelReadings) : State := (s.windowed r).levelStage4

/-- The state in which stage 7 of a period is taken. -/
def State.airServed (s : State) (r : LevelReadings) : State := (s.lockTested r).levelStage5

theorem State.levellingPeriod_eq (hl : s.loaded = true) (r : LevelReadings) :
    s.levellingPeriod r = (s.airServed r).closePeriod :=
  (if_pos hl).trans (State.closePeriod_eq _)

/-! ### The window and the corners through stages 2 to 4 (R123 to R127) -/

theorem limitedFrom_eq (before : Option Band) (b : Band) (entered : Option LimitedFrom) :
    (if b == .limited then (if before == some .limited then entered else some (enteredFrom before)) else none) =
      if some b ≠ some .limited then none
      else if before = some .limited then entered
      else if before = some .abundant then some .abundant
      else if before = some .scarce then some .scarce else some .startUp := by
  rcases before with _ | (_ | _ | _) <;> cases b <;> rfl

/-- The window limit after stage 2, with the band `b` (R127). -/
def State.limitCut (s : State) (b : Band) : Nat :=
  if s.windowFalls = true then s.levelling.limit
  else if some b ≠ some .scarce ∨ s.levelling.band = some .scarce then s.levelling.limit
  else if s.ladder.mode = .raise ∨ s.ladder.mode = .backup then
    s.levelling.used + min (s.levelling.limit - s.levelling.used) (16 / s.levelling.n)
  else s.levelling.used

theorem State.levelStage2_cut (s : State) : s.levelStage2 = { s.updateBand with levelling := { s.updateBand.levelling with
    limit := s.limitCut (bandAfter s.levelling.band s.supplyNow) } } := by
  have hband : s.updateBand.levelling.band = some (bandAfter s.levelling.band s.supplyNow) := rfl
  have hreserve : reserveMode s.ladder.mode = true ↔ s.ladder.mode = .raise ∨ s.ladder.mode = .backup := by
    simp [reserveMode]
  simp only [State.levelStage2]
  split
  · next h =>
    obtain ⟨⟨hb, hs⟩, hw⟩ : (bandAfter s.levelling.band s.supplyNow = .scarce ∧ s.levelling.band ≠ some .scarce) ∧
        s.windowFalls = false := by simpa [hband, s.windowDue_eq] using h
    rw [State.limitCut, if_neg (by simp [hw]), if_neg (by simp [hb, hs])]
    simp only [← hreserve]
    rfl
  · next h =>
    have hkeep : s.limitCut (bandAfter s.levelling.band s.supplyNow) = s.levelling.limit := by
      simp only [hband, s.windowDue_eq] at h
      unfold State.limitCut
      split
      · rfl
      · rw [if_pos]
        by_contra hcut
        simp_all
    rw [hkeep]
    rfl

theorem State.levelStage2_eq (s : State) : s.levelStage2 = { s with levelling := { s.levelling with
    supplyValue := s.supplyNow
    band := some (bandAfter s.levelling.band s.supplyNow)
    limitedFrom := if some (bandAfter s.levelling.band s.supplyNow) ≠ some .limited then none
      else if s.levelling.band = some .limited then s.levelling.limitedFrom
      else if s.levelling.band = some .abundant then some .abundant
      else if s.levelling.band = some .scarce then some .scarce else some .startUp
    limitedNew := s.levelling.limitedNew || (some (bandAfter s.levelling.band s.supplyNow) == some .limited &&
      s.levelling.band != some .limited)
    limit := s.limitCut (bandAfter s.levelling.band s.supplyNow) } } := by
  rw [State.levelStage2_cut, ← limitedFrom_eq]
  rfl

theorem State.levelStage3_of_due (h : s.windowFalls = true) : s.levelStage3 = s.startWindow :=
  if_pos (s.windowDue_eq.trans h)

theorem State.levelStage3_of_not_due (h : s.windowFalls = false) : s.levelStage3 = { s with levelling := { s.levelling with
    elapsed := if s.levelling.started = true then s.levelling.elapsed + 1 else s.levelling.elapsed } } := by
  rw [State.levelStage3, s.windowDue_eq, h, if_neg Bool.false_ne_true]
  split <;> rfl

theorem State.levelStage4_eq (s : State) : s.levelStage4 = { s with levelling := { s.levelling with
    corners := ⟨(s.corner .left).tested (s.cornerTarget .left) s.cfg.deadband,
      (s.corner .right).tested (s.cornerTarget .right) s.cfg.deadband⟩ } } := by
  simp only [State.levelStage4, State.lockTest_eq]
  rfl

/-- The state in which stage 3 of a period is taken. -/
def State.banded (s : State) (r : LevelReadings) : State := (s.levelStage1 r).levelStage2

/-- The supply value of a period. -/
def State.supplyFormed (s : State) (r : LevelReadings) : Option Nat := (s.levelStage1 r).supplyNow

/-- The air band of a period. -/
def State.bandFormed (s : State) (r : LevelReadings) : Band := bandAfter s.levelling.band (s.supplyFormed r)

/-- The corner of a side after stage 4. -/
def State.cornerTested (s : State) (r : LevelReadings) (side : Side) : Corner :=
  (s.cornerRead r side).tested (s.cornerTarget side) s.cfg.deadband

theorem State.banded_levelling (s : State) (r : LevelReadings) : (s.banded r).levelling = { s.levelling with
    corners := ⟨s.cornerRead r .left, s.cornerRead r .right⟩
    supply := s.supplyRead r
    supplyValue := s.supplyFormed r
    band := some (s.bandFormed r)
    limitedFrom := if some (s.bandFormed r) ≠ some .limited then none
      else if s.levelling.band = some .limited then s.levelling.limitedFrom
      else if s.levelling.band = some .abundant then some .abundant
      else if s.levelling.band = some .scarce then some .scarce else some .startUp
    limitedNew := s.levelling.limitedNew || (some (s.bandFormed r) == some .limited &&
      s.levelling.band != some .limited)
    limit := s.limitCut (s.bandFormed r) } := by
  have hread := s.levelStage1_eq r
  simp only [State.banded, State.bandFormed, State.supplyFormed, State.levelStage2_eq, hread]
  rfl

theorem State.banded_windowFalls (s : State) (r : LevelReadings) : (s.banded r).windowFalls = s.windowFalls := by
  have hladder : (s.banded r).ladder = s.ladder := by simp [State.banded]
  rw [State.windowFalls, s.banded_levelling r, hladder, State.windowFalls]

theorem State.windowed_of_due (h : s.windowFalls = true) (r : LevelReadings) :
    s.windowed r = (s.banded r).startWindow :=
  State.levelStage3_of_due ((s.banded_windowFalls r).trans h)

theorem State.windowed_of_not_due (h : s.windowFalls = false) (r : LevelReadings) :
    s.windowed r = { s.banded r with levelling := { (s.banded r).levelling with
      elapsed := if s.levelling.started = true then s.levelling.elapsed + 1 else s.levelling.elapsed } } := by
  have hstage := State.levelStage3_of_not_due ((s.banded_windowFalls r).trans h)
  have hlevel := s.banded_levelling r
  rw [show (s.banded r).levelling.started = s.levelling.started by rw [hlevel],
    show (s.banded r).levelling.elapsed = s.levelling.elapsed by rw [hlevel]] at hstage
  exact hstage

/-- What stage 3 leaves of levelling. -/
theorem State.windowed_levelling (s : State) (r : LevelReadings) : (s.windowed r).levelling = { (s.banded r).levelling with
    allowance := (s.windowed r).levelling.allowance
    n := (s.windowed r).levelling.n
    share := (s.windowed r).levelling.share
    limit := (s.windowed r).levelling.limit
    used := if s.windowFalls then 0 else s.levelling.used
    started := (s.windowed r).levelling.started
    elapsed := (s.windowed r).levelling.elapsed
    limitedNew := (s.windowed r).levelling.limitedNew
    windowSupply := (s.windowed r).levelling.windowSupply } := by
  cases h : s.windowFalls with
  | true =>
    rw [State.windowed_of_due h]
    rfl
  | false =>
    rw [State.windowed_of_not_due h, s.banded_levelling r]
    rfl

theorem State.windowed_eq (s : State) (r : LevelReadings) : s.windowed r = { s with
    levelling := (s.windowed r).levelling
    faults := s.levelFaults r } := by
  apply State.eq_of_blocks <;> simp [State.windowed, s.levelStage1_eq r]

theorem State.windowed_corner (s : State) (r : LevelReadings) (side : Side) :
    (s.windowed r).corner side = s.cornerRead r side := by
  rw [State.corner, s.windowed_levelling r, s.banded_levelling r]
  cases side <;> rfl

theorem State.lockTested_eq (s : State) (r : LevelReadings) : s.lockTested r = { s with
    levelling := { (s.windowed r).levelling with
      corners := ⟨s.cornerTested r .left, s.cornerTested r .right⟩ }
    faults := s.levelFaults r } := by
  have hframe := s.windowed_eq r
  have htarget (a : Side) : (s.windowed r).cornerTarget a = s.cornerTarget a :=
    (congrArg (State.cornerTarget · a) hframe).trans rfl
  have hcfg : (s.windowed r).cfg = s.cfg := (congrArg State.cfg hframe).trans rfl
  rw [State.lockTested, State.levelStage4_eq, htarget, htarget, hcfg, s.windowed_corner, s.windowed_corner]
  exact congrArg (fun u : State => { u with levelling := { (s.windowed r).levelling with
    corners := ⟨s.cornerTested r .left, s.cornerTested r .right⟩ } }) hframe

theorem State.lockTested_corner (s : State) (r : LevelReadings) (side : Side) :
    (s.lockTested r).corner side = s.cornerTested r side := by
  rw [State.corner, s.lockTested_eq r]
  cases side <;> rfl

end Sys2Proof.Machine
end

section
/-! PROOFS. What a levelling period leaves, corner by corner and figure by figure, and the statement on it. -/

namespace Sys2Proof.Machine

variable {s : State}

/-! ### The period's end -/

theorem State.levellingPeriod_corner (hl : s.loaded = true) (r : LevelReadings) (side : Side) :
    (s.levellingPeriod r).corner side = ((s.cornerTested r side).served ((s.lockTested r).callsFill side)
      ((s.lockTested r).sliceAtTurn side) ((s.lockTested r).exhausts side)).noted := by
  rw [← s.lockTested_corner, ← State.corner_levelStage5, State.corner, State.levellingPeriod_eq hl]
  cases side <;> rfl

theorem State.windowed_kept (s : State) (r : LevelReadings) :
    (s.windowed r).levelling.raiseTimer = s.levelling.raiseTimer ∧
    (s.windowed r).levelling.load = s.levelling.load ∧ (s.windowed r).levelling.closedLast = s.levelling.closedLast := by
  rw [s.windowed_levelling r, s.banded_levelling r]
  exact ⟨rfl, rfl, rfl⟩

theorem State.airServed_eq (s : State) (r : LevelReadings) : s.airServed r = { s with
    levelling := { (s.windowed r).levelling with
      corners := ⟨(s.airServed r).corner .left, (s.airServed r).corner .right⟩
      used := (s.airServed r).levelling.used }
    faults := s.levelFaults r } := by
  have htested := congrArg State.levelling (s.lockTested_eq r)
  have hlevel : (s.airServed r).levelling = { (s.windowed r).levelling with
      corners := ⟨(s.airServed r).corner .left, (s.airServed r).corner .right⟩
      used := (s.airServed r).levelling.used } :=
    (s.lockTested r).levelStage5_levelling.trans (congrArg (fun l : Levelling => { l with
      corners := ⟨(s.airServed r).corner .left, (s.airServed r).corner .right⟩
      used := (s.airServed r).levelling.used }) htested)
  apply State.eq_of_blocks
  case h10 => exact hlevel
  all_goals simp [State.airServed, State.lockTested, State.windowed, s.levelStage1_eq r]

theorem State.closePeriod_levelling {l : Levelling} {corners : Sides Corner} {used : Nat}
    (h : s.levelling = { l with corners, used }) : s.closePeriod.levelling = { l with
      corners := s.closePeriod.levelling.corners
      used
      load := s.measureLoad.levelling.load
      closedLast := s.valvesClosed
      filling := s.closePeriod.levelling.filling
      raiseTimer := s.closePeriod.levelling.raiseTimer } := by
  have hclosed : s.closePeriod.levelling = { s.levelling with
      corners := s.closePeriod.levelling.corners
      load := s.measureLoad.levelling.load
      closedLast := s.valvesClosed
      filling := s.closePeriod.levelling.filling
      raiseTimer := s.closePeriod.levelling.raiseTimer } := rfl
  rw [hclosed, h]

/-- What a period leaves of levelling, from its windows and its valves. -/
theorem State.levellingPeriod_levelling (hl : s.loaded = true) (r : LevelReadings) :
    (s.levellingPeriod r).levelling = { (s.windowed r).levelling with
      corners := (s.levellingPeriod r).levelling.corners
      used := (s.airServed r).levelling.used
      load := (s.airServed r).measureLoad.levelling.load
      closedLast := (s.airServed r).valvesClosed
      filling := (s.levellingPeriod r).levelling.filling
      raiseTimer := if s.ladder.mode = .raise then min 20000 (s.levelling.raiseTimer + 10) else 0 } := by
  obtain ⟨htimer, -, -⟩ := s.windowed_kept r
  have hserved := s.airServed_eq r
  have hraise : (s.airServed r).closePeriod.levelling.raiseTimer =
      if s.ladder.mode = .raise then min 20000 (s.levelling.raiseTimer + 10) else 0 := by
    rw [State.closePeriod, hserved, ← htimer]
  rw [State.levellingPeriod_eq hl, ← hraise]
  exact State.closePeriod_levelling (congrArg State.levelling hserved)

theorem State.levellingPeriod_faults (hl : s.loaded = true) (r : LevelReadings) : (s.levellingPeriod r).faults =
    if s.ladder.mode ≠ .raise then (s.levelFaults r).finish .raiseSlow 0
    else if s.levelling.raiseTimer < 20000 ∧ 19990 ≤ s.levelling.raiseTimer then (s.levelFaults r).raise .raiseSlow 0
    else s.levelFaults r := by
  obtain ⟨htimer, -, -⟩ := s.windowed_kept r
  rw [State.levellingPeriod_eq hl, State.closePeriod, s.airServed_eq r, ← htimer]

/-! ### Supply, band and window (R122 to R127) -/

/-- The figures of stages 1 and 2 stand to the period's end. -/
theorem State.levellingPeriod_banded (hl : s.loaded = true) (r : LevelReadings) :
    (s.levellingPeriod r).levelling.supply = s.supplyRead r ∧
    (s.levellingPeriod r).levelling.supplyValue = s.supplyFormed r ∧
    (s.levellingPeriod r).levelling.band = some (s.bandFormed r) ∧
    (s.levellingPeriod r).levelling.limitedFrom = (if some (s.bandFormed r) ≠ some .limited then none
      else if s.levelling.band = some .limited then s.levelling.limitedFrom
      else if s.levelling.band = some .abundant then some .abundant
      else if s.levelling.band = some .scarce then some .scarce else some .startUp) := by
  rw [State.levellingPeriod_levelling hl, s.windowed_levelling r, s.banded_levelling r]
  exact ⟨rfl, rfl, rfl, rfl⟩

theorem State.supplyFormed_eq (s : State) (r : LevelReadings) : s.supplyFormed r =
    (s.peerNumbers.map s.peerSupply).foldl lowerOf
      (if s.cfg.supplyFitted && (s.supplyRead r).valid then (s.supplyRead r).value else none) := by
  rw [State.supplyFormed, s.levelStage1_eq r]
  rfl

theorem State.mem_peerSupplies (s : State) (x : Nat) : some x ∈ s.peerNumbers.map s.peerSupply ↔
    ∃ n q, s.isPeer n = true ∧ (s.peer n).heard = some q ∧ q.supply = some x := by
  simp [State.peerSupply, Option.bind_eq_some_iff]

/-- The supply value is one of the figures, and at or below each (R123). -/
theorem State.supplyFormed_lowest (s : State) (r : LevelReadings) :
    (∀ p, s.supplyFormed r = some p →
      (s.cfg.supplyFitted = true ∧ (s.supplyRead r).valid = true ∧ (s.supplyRead r).value = some p) ∨
        ∃ n q, s.isPeer n = true ∧ (s.peer n).heard = some q ∧ q.supply = some p) ∧
    (s.cfg.supplyFitted = true → (s.supplyRead r).valid = true → ∀ q, (s.supplyRead r).value = some q →
      ∃ p, s.supplyFormed r = some p ∧ p ≤ q) ∧
    (∀ n q x, s.isPeer n = true → (s.peer n).heard = some q → q.supply = some x →
      ∃ p, s.supplyFormed r = some p ∧ p ≤ x) := by
  simp only [s.supplyFormed_eq r, ← s.mem_peerSupplies]
  refine ⟨fun p hp => ?_, fun hf hv q hq => foldl_lowerOf_le (.inl ?_), fun n q x hn hq hx => foldl_lowerOf_le (.inr ?_)⟩
  · exact (foldl_lowerOf_mem hp).imp_left fun hown => by simpa [and_assoc] using hown
  · simp [hf, hv, hq]
  · exact (s.mem_peerSupplies x).2 ⟨n, q, hn, hq, hx⟩

/-- A window start does not look at what stages 1, 4, 5 and 7 write. -/
theorem State.WindowStarts.of_stages {u : State} {before after : Levelling} {corners corners' : Sides Corner}
    {supply : Sensor Nat} {limit used load timer : Nat} {closedLast filling : Bool}
    (h : u.WindowStarts { before with corners, supply, limit } after) (hf : u.fillers = s.fillers)
    (hm : u.ladder.mode = s.ladder.mode) : s.WindowStarts before { after with
      corners := corners'
      used, load, closedLast, filling, raiseTimer := timer } where
  fillers := h.fillers.trans hf
  abundant := h.abundant
  scarce := h.scarce
  entered := h.entered
  hunting := h.hunting
  shares := hm ▸ h.shares
  withheld := hm ▸ h.withheld
  begins := h.begins

theorem State.levellingPeriod_window (hl : s.loaded = true) (h : s.windowFalls = true) (r : LevelReadings) :
    s.WindowStarts { s.levelling with
      band := (s.levellingPeriod r).levelling.band
      supplyValue := (s.levellingPeriod r).levelling.supplyValue
      limitedFrom := (s.levellingPeriod r).levelling.limitedFrom
      limitedNew := s.levelling.limitedNew || ((s.levellingPeriod r).levelling.band == some .limited &&
        s.levelling.band != some .limited) } (s.levellingPeriod r).levelling := by
  obtain ⟨-, hvalue, hband, hfrom⟩ := State.levellingPeriod_banded hl r
  have hframe : s.banded r = { s with levelling := (s.banded r).levelling, faults := (s.banded r).faults } := by
    apply State.eq_of_blocks <;> simp [State.banded]
  have hstart := (s.banded r).startWindow_starts
  rw [← State.windowed_of_due h, s.banded_levelling r] at hstart
  rw [hvalue, hband, hfrom, State.levellingPeriod_levelling hl]
  exact hstart.of_stages ((congrArg State.fillers hframe).trans rfl) (by rw [hframe])

theorem State.levellingPeriod_window_goes_on (hl : s.loaded = true) (h : s.windowFalls = false) (r : LevelReadings) :
    (s.levellingPeriod r).levelling.allowance = s.levelling.allowance ∧
    (s.levellingPeriod r).levelling.n = s.levelling.n ∧ (s.levellingPeriod r).levelling.share = s.levelling.share ∧
    (s.levellingPeriod r).levelling.windowSupply = s.levelling.windowSupply ∧
    (s.levellingPeriod r).levelling.started = s.levelling.started ∧
    (s.levellingPeriod r).levelling.elapsed =
      (if s.levelling.started = true then s.levelling.elapsed + 1 else s.levelling.elapsed) ∧
    (s.levellingPeriod r).levelling.limitedNew = (s.levelling.limitedNew ||
      (some (s.bandFormed r) == some .limited && s.levelling.band != some .limited)) ∧
    (s.levellingPeriod r).levelling.limit = (if some (s.bandFormed r) ≠ some .scarce ∨ s.levelling.band = some .scarce
      then s.levelling.limit
      else if s.ladder.mode = .raise ∨ s.ladder.mode = .backup then
        s.levelling.used + min (s.levelling.limit - s.levelling.used) (16 / s.levelling.n)
      else s.levelling.used) := by
  rw [State.levellingPeriod_levelling hl, State.windowed_of_not_due h, s.banded_levelling r, State.limitCut, h]
  exact ⟨rfl, rfl, rfl, rfl, rfl, rfl, rfl, rfl⟩

/-! ### Corners (R111, R113 to R116, R126) -/

theorem Corner.noted_frame (c : Corner) :
    c.noted.height = c.height ∧ c.noted.bellows = c.bellows ∧ c.noted.trim = c.trim ∧ c.noted.trimSeen = c.trim ∧
    c.noted.valveSeen = c.valve ∧ c.noted.valve = c.valve ∧ c.noted.h = c.h ∧ c.noted.target = c.target ∧
    c.noted.err = c.err ∧ c.noted.inBand = c.inBand ∧ c.noted.outBand = c.outBand ∧ c.noted.locked = c.locked ∧
    c.noted.calls = c.calls ∧ c.noted.starved = c.starved :=
  ⟨rfl, rfl, rfl, rfl, rfl, rfl, rfl, rfl, rfl, rfl, rfl, rfl, rfl, rfl⟩

theorem Corner.served_frame (c : Corner) (calls slice exhausts : Bool) {d : Corner}
    (hd : d = c.served calls slice exhausts) :
    d.height = c.height ∧ d.bellows = c.bellows ∧ d.trim = c.trim ∧ d.h = c.h ∧ d.target = c.target ∧ d.err = c.err ∧
    d.inBand = c.inBand ∧ d.outBand = c.outBand ∧ d.locked = c.locked := by
  subst hd
  exact ⟨rfl, rfl, rfl, rfl, rfl, rfl, rfl, rfl, rfl⟩

/-- Calls, valves and targets apart, a period leaves of a corner what its stages 1 and 4 leave. -/
theorem State.levellingPeriod_tested (hl : s.loaded = true) (r : LevelReadings) (side : Side) {d : Corner}
    (hd : d = (s.levellingPeriod r).corner side) :
    d.height = (s.cornerTested r side).height ∧ d.bellows = (s.cornerTested r side).bellows ∧
    d.trim = (s.cornerTested r side).trim ∧ d.trimSeen = d.trim ∧ d.valveSeen = d.valve ∧
    d.h = (s.cornerTested r side).h ∧ d.target = (s.cornerTested r side).target ∧
    d.err = (s.cornerTested r side).err ∧ d.inBand = (s.cornerTested r side).inBand ∧
    d.outBand = (s.cornerTested r side).outBand ∧ d.locked = (s.cornerTested r side).locked := by
  obtain ⟨hheight, hbellows, htrim, hh, htarget, herr, hin, hout, hlocked⟩ := Corner.served_frame (s.cornerTested r side)
    ((s.lockTested r).callsFill side) ((s.lockTested r).sliceAtTurn side) ((s.lockTested r).exhausts side) rfl
  rw [hd, State.levellingPeriod_corner hl]
  simp only [Corner.noted_frame, hheight, hbellows, htrim, hh, htarget, herr, hin, hout, hlocked, and_self]

theorem State.cornerTested_sensors (s : State) (r : LevelReadings) (side : Side) :
    (s.cornerTested r side).height = ((s.corner side).height.read (heightReading (atSide r.height side))).1 ∧
    (s.cornerTested r side).bellows = ((s.corner side).bellows.read (bellowsReading (atSide r.bellows side))).1 ∧
    (s.cornerTested r side).trim = (s.corner side).trim ∧
    (s.cornerTested r side).target = s.cornerTarget side := by
  simp [State.cornerTested, State.cornerRead]

theorem State.cornerTarget_eq (s : State) (side : Side) : s.cornerTarget side =
    if s.cfg.kerb = side ∧ (s.ladder.mode = .kneel ∨ s.ladder.mode = .knelt) then -(s.cfg.kneelDepth : Int) else 0 := by
  simp [State.cornerTarget, State.isKerb]

theorem State.levellingPeriod_sensors (hl : s.loaded = true) (r : LevelReadings) (side : Side) {d : Corner}
    (hd : d = (s.levellingPeriod r).corner side) :
    (s.corner side).height.ReadAs d.height (heightReading (atSide r.height side)) ∧
    (s.corner side).bellows.ReadAs d.bellows (bellowsReading (atSide r.bellows side)) ∧
    d.trim = (s.corner side).trim ∧ d.trimSeen = (s.corner side).trim := by
  obtain ⟨hheight, hbellows, htrim, hseen, -⟩ := State.levellingPeriod_tested hl r side hd
  obtain ⟨hread, hpressure, hkept, -⟩ := s.cornerTested_sensors r side
  rw [hseen, htrim, hkept, hheight, hread, hbellows, hpressure]
  exact ⟨Sensor.read_readAs _ _, Sensor.read_readAs _ _, rfl, rfl⟩

theorem State.levellingPeriod_excluded (hl : s.loaded = true) (r : LevelReadings) (side : Side) {d : Corner}
    (hd : d = (s.levellingPeriod r).corner side) (hv : d.height.valid = false) :
    d.h = none ∧ d.err = none ∧ d.inBand = 0 ∧ d.outBand = 0 ∧ d.locked = false := by
  obtain ⟨hheight, -, -, -, -, hh, -, herr, hin, hout, hlocked⟩ := State.levellingPeriod_tested hl r side hd
  obtain ⟨hread, -⟩ := s.cornerTested_sensors r side
  rw [hheight, hread] at hv
  rw [hh, herr, hin, hout, hlocked]
  exact Corner.tested_of_excluded hv _ _ _ rfl

theorem State.levellingPeriod_counts (hl : s.loaded = true) (r : LevelReadings) (side : Side) {d : Corner}
    (hd : d = (s.levellingPeriod r).corner side) {raw e : Int} (hv : d.height.valid = true)
    (hraw : d.height.value = some raw) (he : e = d.target - clampInt (-150) 150 (raw - (s.corner side).trim)) :
    d.h = some (clampInt (-150) 150 (raw - (s.corner side).trim)) ∧ d.err = some e ∧
    (e.natAbs ≤ s.cfg.deadband → d.outBand = 0 ∧
      d.inBand = min 20 ((if d.target = (s.corner side).target then (s.corner side).inBand else 0) + 1) ∧
      (d.locked = true ↔ d.inBand = 20)) ∧
    (s.cfg.deadband < e.natAbs → d.inBand = 0 ∧
      d.outBand = min 200 ((if d.target = (s.corner side).target then (s.corner side).outBand else 0) + 1) ∧
      d.locked = false) := by
  obtain ⟨hheight, -, -, -, -, hh, htarget, herr, hin, hout, hlocked⟩ := State.levellingPeriod_tested hl r side hd
  obtain ⟨hread, -, -, haim⟩ := s.cornerTested_sensors r side
  rw [hheight, hread] at hv hraw
  rw [htarget, haim] at he
  rw [hh, herr, hin, hout, hlocked, htarget, haim]
  exact Corner.tested_of_valid hv hraw _ _ he rfl

/-- The valve of a corner as it is called for, with its flags (R115, R116). -/
theorem State.levellingPeriod_valve (hl : s.loaded = true) (r : LevelReadings) (side : Side) {d : Corner}
    (hd : d = (s.levellingPeriod r).corner side) :
    d.calls = (s.lockTested r).callsFill side ∧
    d.starved = ((s.lockTested r).callsFill side && !(s.lockTested r).sliceAtTurn side) ∧
    d.valve = (if (s.lockTested r).callsFill side then (if (s.lockTested r).sliceAtTurn side then .fill else .closed)
      else if (s.lockTested r).exhausts side then .exhaust else .closed) := by
  rw [hd, State.levellingPeriod_corner hl]
  exact ⟨rfl, rfl, rfl⟩

/-- Stages 1 to 4 leave what a corner's holding looks at (R115). -/
theorem State.lockTested_acts_iff (s : State) (r : LevelReadings) (side : Side) : (s.lockTested r).acts side = true ↔
    ¬s.cornerHolds side (s.cornerTested r side).height.valid ∧
      (s.ladder.mode ≠ .drive ∨ 200 ≤ (s.cornerTested r side).outBand) := by
  have hholds (b : Bool) : (s.lockTested r).cornerHolds side b = s.cornerHolds side b :=
    (congrArg (State.cornerHolds · side b) (s.lockTested_eq r)).trans rfl
  rw [State.acts_iff, hholds, s.lockTested_corner r, s.lockTested_eq r]

theorem State.lockTested_cfg (s : State) (r : LevelReadings) : (s.lockTested r).cfg = s.cfg :=
  (congrArg State.cfg (s.lockTested_eq r)).trans rfl

/-- A corner that holds or waits (R115). -/
theorem State.levellingPeriod_holds (hl : s.loaded = true) (r : LevelReadings) (side : Side) {d : Corner}
    (hd : d = (s.levellingPeriod r).corner side)
    (h : s.cornerHolds side d.height.valid ∨ (s.ladder.mode = .drive ∧ d.outBand < 200)) :
    d.valve = .closed ∧ d.calls = false ∧ d.starved = false := by
  obtain ⟨hheight, -, -, -, -, -, -, -, -, hout, -⟩ := State.levellingPeriod_tested hl r side hd
  obtain ⟨hcalls, hstarved, hvalve⟩ := State.levellingPeriod_valve hl r side hd
  have hidle : (s.lockTested r).acts side = false := by
    rw [Bool.eq_false_iff, ne_eq, State.lockTested_acts_iff, ← hheight, ← hout]
    rintro ⟨hfree, hready⟩
    rcases h with hholds | ⟨hm, hlt⟩
    · exact hfree hholds
    · exact hready.elim (fun hne => hne hm) (Nat.not_le.2 hlt)
  have hcallsFill : (s.lockTested r).callsFill side = false := by simp [State.callsFill, hidle]
  have hexhausts : (s.lockTested r).exhausts side = false := by simp [State.exhausts, hidle]
  rw [hcalls, hstarved, hvalve, hcallsFill, hexhausts]
  exact ⟨rfl, rfl, rfl⟩

/-- A corner that acts, by its error (R116). -/
theorem State.levellingPeriod_acts (hl : s.loaded = true) (r : LevelReadings) (side : Side) {d : Corner}
    (hd : d = (s.levellingPeriod r).corner side) {e : Int} (hfree : ¬s.cornerHolds side d.height.valid)
    (hready : s.ladder.mode ≠ .drive ∨ 200 ≤ d.outBand) (he : d.err = some e) :
    (d.calls = true ↔ (s.cfg.deadband : Int) < e) ∧
    (e < -(s.cfg.deadband : Int) → d.valve = .exhaust ∧ d.starved = false) ∧
    (e.natAbs ≤ s.cfg.deadband → d.valve = .closed ∧ d.starved = false) := by
  obtain ⟨hheight, -, -, -, -, -, -, herr, -, hout, -⟩ := State.levellingPeriod_tested hl r side hd
  obtain ⟨hcalls, hstarved, hvalve⟩ := State.levellingPeriod_valve hl r side hd
  have hacts : (s.lockTested r).acts side = true := by
    rw [State.lockTested_acts_iff, ← hheight, ← hout]
    exact ⟨hfree, hready⟩
  have herror : ((s.lockTested r).corner side).error = e := by
    rw [Corner.error, s.lockTested_corner r, ← herr, he]
    rfl
  have hcallsFill : (s.lockTested r).callsFill side = decide ((s.cfg.deadband : Int) < e) := by
    simp [State.callsFill, hacts, herror, s.lockTested_cfg r]
  have hexhausts : (s.lockTested r).exhausts side = decide (e < -(s.cfg.deadband : Int)) := by
    simp [State.exhausts, hacts, herror, s.lockTested_cfg r]
  rw [hcalls, hstarved, hvalve, hcallsFill, hexhausts]
  refine ⟨decide_eq_true_iff, fun hlow => ?_, fun hin => ?_⟩
  · simp [hlow, show ¬(s.cfg.deadband : Int) < e by omega]
  · simp [show ¬(s.cfg.deadband : Int) < e by omega, show ¬e < -(s.cfg.deadband : Int) by omega]

/-- The window as stage 5 finds it. -/
theorem State.lockTested_window (hl : s.loaded = true) (r : LevelReadings) :
    (s.lockTested r).levelling.used = (if s.windowFalls then 0 else s.levelling.used) ∧
    (s.lockTested r).levelling.limit = (s.levellingPeriod r).levelling.limit ∧
    (s.lockTested r).levelling.band = (s.levellingPeriod r).levelling.band := by
  rw [State.levellingPeriod_levelling hl, s.lockTested_eq r, s.windowed_levelling r]
  exact ⟨rfl, rfl, rfl⟩

theorem State.lockTested_servedAfter (hl : s.loaded = true) (r : LevelReadings) (side : Side)
    (h : (s.lockTested r).callsFill side = true) : (s.levellingPeriod r).servedAfter side = true ↔
      side ≠ (s.lockTested r).firstServed ∧ (s.lockTested r).callsFill (s.lockTested r).firstServed = true := by
  refine State.servedAfter_iff (fun a => ?_) (fun a => ?_) ?_ h
  · obtain ⟨hcalls, -, -⟩ := State.levellingPeriod_valve hl r a rfl
    exact hcalls
  · obtain ⟨-, -, -, -, -, -, -, herr, -, -, -⟩ := State.levellingPeriod_tested hl r a rfl
    rw [herr, s.lockTested_corner r]
  · rw [s.lockTested_cfg r]
    simp [State.cfg]

/-- A corner that calls has a slice when one is left at its turn (R116, R126). -/
theorem State.levellingPeriod_slices (hl : s.loaded = true) (r : LevelReadings) (side : Side) {d : Corner}
    (hd : d = (s.levellingPeriod r).corner side) {used : Nat} (hcalled : d.calls = true)
    (hused : used = if s.windowFalls then 0 else s.levelling.used) :
    (s.airFlows (s.levellingPeriod r).levelling.band →
      used + (if (s.levellingPeriod r).servedAfter side then 1 else 0) < (s.levellingPeriod r).levelling.limit →
      d.valve = .fill ∧ d.starved = false) ∧
    (¬s.airFlows (s.levellingPeriod r).levelling.band ∨
      (s.levellingPeriod r).levelling.limit ≤ used + (if (s.levellingPeriod r).servedAfter side then 1 else 0) →
      d.valve = .closed ∧ d.starved = true) := by
  obtain ⟨hcalls, hstarved, hvalve⟩ := State.levellingPeriod_valve hl r side hd
  have hcall : (s.lockTested r).callsFill side = true := hcalls ▸ hcalled
  obtain ⟨hwindow, hlimit, hband⟩ := State.lockTested_window hl r
  have hair : (s.lockTested r).airFlows (s.levellingPeriod r).levelling.band =
      s.airFlows (s.levellingPeriod r).levelling.band := by
    rw [s.lockTested_eq r]
    rfl
  have hslice := (s.lockTested r).sliceAtTurn_iff side
  simp only [← State.lockTested_servedAfter hl r side hcall, hwindow, hlimit, hband, hair, ← hused] at hslice
  rw [hstarved, hvalve, hcall]
  refine ⟨fun hflows hlt => ?_, fun hnone => ?_⟩
  · simp [hslice.2 ⟨hflows, hlt⟩]
  · have hleft : (s.lockTested r).sliceAtTurn side = false := by
      rw [Bool.eq_false_iff, ne_eq, hslice]
      rintro ⟨hflows, hlt⟩
      exact hnone.elim (fun hno => hno hflows) (Nat.not_le.2 hlt)
    simp [hleft]

theorem State.airServed_corner (hl : s.loaded = true) (r : LevelReadings) (side : Side) :
    (s.levellingPeriod r).corner side = ((s.airServed r).corner side).noted := by
  rw [State.levellingPeriod_corner hl, ← s.lockTested_corner, ← State.corner_levelStage5]
  rfl

/-! ### Slices used, load and filling flag (R119, R126, R128) -/

theorem State.levellingPeriod_used (hl : s.loaded = true) (r : LevelReadings) : (s.levellingPeriod r).levelling.used =
    (if s.windowFalls then 0 else s.levelling.used) +
      (if ((s.levellingPeriod r).corner .left).valve = .fill then 1 else 0) +
      (if ((s.levellingPeriod r).corner .right).valve = .fill then 1 else 0) := by
  obtain ⟨hwindow, -, -⟩ := State.lockTested_window hl r
  have hused : (s.levellingPeriod r).levelling.used = (s.airServed r).levelling.used := by
    rw [State.levellingPeriod_levelling hl]
  have hstage := (s.lockTested r).levelStage5_used
  rw [hwindow, ← State.airServed] at hstage
  simp only [hused, State.airServed_corner hl, Corner.noted_frame, hstage]

theorem State.levellingPeriod_closedLast (hl : s.loaded = true) (r : LevelReadings) :
    (s.levellingPeriod r).levelling.closedLast = true ↔ ((s.levellingPeriod r).corner .left).valve = .closed ∧
      ((s.levellingPeriod r).corner .right).valve = .closed := by
  rw [State.levellingPeriod_levelling hl, State.airServed_corner hl, State.airServed_corner hl]
  simp [State.valvesClosed, State.corner, atSide, Corner.noted]

theorem State.levellingPeriod_filling (hl : s.loaded = true) (r : LevelReadings) :
    (s.levellingPeriod r).levelling.filling = true ↔ (((s.levellingPeriod r).corner .left).calls = true ∨
      ((s.levellingPeriod r).corner .right).calls = true) ∧ s.airFlows (s.levellingPeriod r).levelling.band := by
  have hair : (s.airServed r).airAllowed = true ↔ s.airFlows (s.levellingPeriod r).levelling.band := by
    have hband : (s.airServed r).levelling.band = (s.levellingPeriod r).levelling.band := by
      rw [s.airServed_eq r, State.levellingPeriod_levelling hl]
    have hladder : (s.airServed r).ladder = s.ladder := by rw [s.airServed_eq r]
    rw [State.airAllowed_iff, hband, State.airFlows, hladder, State.airFlows]
  have hfilling : (s.levellingPeriod r).levelling.filling = ((((s.airServed r).corner .left).calls ||
      ((s.airServed r).corner .right).calls) && (s.airServed r).airAllowed) := by
    rw [State.levellingPeriod_eq hl, State.closePeriod]
  simp only [hfilling, State.airServed_corner hl, Corner.noted_frame, Bool.and_eq_true, Bool.or_eq_true, hair]

/-- The load of a period in the terms of stage 7 (R119). -/
theorem State.levellingPeriod_measures (hl : s.loaded = true) (r : LevelReadings) :
    (s.levellingPeriod r).levelling.load = (s.airServed r).measureLoad.levelling.load ∧
    (s.airServed r).levelling.closedLast = s.levelling.closedLast ∧ (s.airServed r).levelling.load = s.levelling.load ∧
    (s.airServed r).valvesClosed = (s.levellingPeriod r).levelling.closedLast ∧
    (s.airServed r).sweeping = s.sweeping ∧ (s.airServed r).cfg = s.cfg ∧
    ∀ side, ((s.airServed r).corner side).bellows = ((s.levellingPeriod r).corner side).bellows := by
  obtain ⟨-, hload, hlast⟩ := s.windowed_kept r
  have hstart : (s.airServed r).startUp = s.startUp := by rw [s.airServed_eq r]
  refine ⟨?_, ?_, ?_, ?_, State.sweeping_congr (by rw [hstart]), State.cfg_congr (by rw [hstart]), fun side => ?_⟩
  · rw [State.levellingPeriod_levelling hl]
  · rw [s.airServed_eq r, ← hlast]
  · rw [s.airServed_eq r, ← hload]
  · rw [State.levellingPeriod_levelling hl]
  · rw [State.airServed_corner hl, Corner.noted]

/-- The load of a period: measured with the valves closed and both bellows read, else kept (R119). -/
theorem State.levellingPeriod_load (hl : s.loaded = true) (r : LevelReadings) {t : State} (ht : t = s.levellingPeriod r) :
    (∀ pL pR, s.levelling.closedLast = true → t.levelling.closedLast = true → s.sweeping = false →
      (t.corner .left).bellows.valid = true → (t.corner .right).bellows.valid = true →
      (t.corner .left).bellows.value = some pL → (t.corner .right).bellows.value = some pR →
      t.levelling.load = min 2000 (s.cfg.unsprung + (pL + pR) * s.cfg.kload / 256)) ∧
    (s.levelling.closedLast = false ∨ t.levelling.closedLast = false ∨ s.sweeping = true ∨
      (t.corner .left).bellows.valid = false ∨ (t.corner .right).bellows.valid = false →
      t.levelling.load = s.levelling.load) := by
  obtain ⟨hload, hlast, hkept, hclosed, hsweep, hcfg, hbellows⟩ := State.levellingPeriod_measures hl r
  subst ht
  rw [hload, ← hlast, ← hkept, ← hclosed, ← hsweep, ← hcfg, ← hbellows, ← hbellows]
  exact ⟨fun pL pR h1 h2 h3 h4 h5 h6 h7 => State.measureLoad_of_closed h1 h2 h3 h4 h5 h6 h7, State.measureLoad_of_open⟩

/-! ### The statement -/

/-- Out of a sweep coils 4 to 7 follow the valves (R117). -/
theorem State.coilOn_of_valve {u : State} (hs : u.sweeping = false) (side : Side) :
    (u.coilOn (4 + 2 * sideNumber side) = true ↔ (u.corner side).valve = .fill) ∧
    (u.coilOn (5 + 2 * sideNumber side) = true ↔ (u.corner side).valve = .exhaust) := by
  cases side <;> simp [State.coilOn, hs, sideNumber, State.corner, atSide]

/-- Settles O38: the clauses in their order, each by the stages that bring it about. -/
theorem levellingPeriodServesTheCorners : Obligations.LevellingPeriodServesTheCorners := by
  intro r s hl
  obtain ⟨hsupply, hvalue, hband, hfrom⟩ := State.levellingPeriod_banded hl r
  obtain ⟨hlowest, hown, hpeers⟩ := s.supplyFormed_lowest r
  obtain ⟨hmeasured, hheld⟩ := State.levellingPeriod_load hl r rfl
  refine ⟨s.levellingPeriod r, rfl, by apply State.eq_of_blocks <;> simp,
    fun v => ⟨heightReads v, bellowsReads v, supplyReads v⟩, fun side => ⟨?_, fun hs => ?_⟩,
    fun side => State.levellingPeriod_sensors hl r side rfl, fun hf => ?_, fun hf => ?_, fun f hf g hg => ?_, ?_, ?_, ?_,
    ?_, fun n _ => s.peerReads n, ⟨_, hband, ?_⟩, ?_, fun hw => State.levellingPeriod_window hl hw r, fun hw => ?_,
    fun side => ?_, fun side => State.levellingPeriod_excluded hl r side rfl,
    fun side raw e => State.levellingPeriod_counts hl r side rfl, fun side => State.levellingPeriod_holds hl r side rfl,
    fun side e => State.levellingPeriod_acts hl r side rfl, fun side used => State.levellingPeriod_slices hl r side rfl,
    State.levellingPeriod_used hl r, State.levellingPeriod_closedLast hl r, hmeasured, hheld,
    State.levellingPeriod_filling hl r⟩
  · obtain ⟨-, -, -, -, hseen, -⟩ := State.levellingPeriod_tested hl r side rfl
    exact hseen
  · exact State.coilOn_of_valve ((State.sweeping_congr (by simp)).trans hs) side
  · rw [hsupply, State.supplyRead, if_pos hf]
    exact Sensor.read_readAs _ _
  · rw [hsupply, State.supplyRead, if_neg (by simp [hf])]
  · rw [State.levellingPeriod_faults hl, hg, hf]
    rfl
  · rw [State.levellingPeriod_levelling hl]
  · rwa [hvalue, hsupply]
  · rwa [hvalue, hsupply]
  · rwa [hvalue]
  · rw [hvalue]
    exact bandAfter_moves _ _
  · rw [hfrom, hband]
  · rw [hband]
    exact State.levellingPeriod_window_goes_on hl hw r
  · obtain ⟨-, -, -, -, -, -, htarget, -⟩ := State.levellingPeriod_tested hl r side rfl
    obtain ⟨-, -, -, haim⟩ := s.cornerTested_sensors r side
    rw [htarget, haim, s.cornerTarget_eq]

end Sys2Proof.Machine
end

section
/-! PROOFS. One entrance through an entrance period: which rule stage 2 takes it by, what every rule leaves of the
record, the edges it may take, and what stages 3 to 5 make of it. -/

namespace Sys2Proof.Machine

variable {e : Entrance} {m : Bool}

/-! ### Which rule stage 2 takes (R131, R133) -/

theorem Entrance.step_of_inconsistent (hl : e.inputs.locked = true) (hc : e.inputs.closed = false)
    (hs : e.state ≠ .fault) : e.step m = e.toFault .inconsistent :=
  if_pos (by simp [Entrance.inconsistent, hl, hc, hs])

theorem Entrance.step_of_consistent (h : e.inputs.locked = false ∨ e.inputs.closed = true ∨ e.state = .fault) :
    e.step m = e.act m :=
  if_neg (by rcases h with h | h | h <;> simp [Entrance.inconsistent, h])

theorem Entrance.act_of_locked (hs : e.state = .locked) : e.act m = e.inLocked m := by simp [Entrance.act, hs]

theorem Entrance.act_of_held (hs : e.state = .released) (hp : e.phase ≠ .relocking) : e.act m = e.inHeld := by
  unfold Entrance.act; split <;> simp_all

theorem Entrance.act_of_relocking (hs : e.state = .released) (hp : e.phase = .relocking) : e.act m = e.inRelocking := by
  simp [Entrance.act, hs, hp]

theorem Entrance.act_of_opened (hs : e.state = .opened) : e.act m = e.inOpened := by simp [Entrance.act, hs]

theorem Entrance.act_of_driving (hs : e.state = .closing) (hp : e.phase ≠ .latching) : e.act m = e.inDriving := by
  unfold Entrance.act; split <;> simp_all

theorem Entrance.act_of_latching (hs : e.state = .closing) (hp : e.phase = .latching) : e.act m = e.inLatching := by
  simp [Entrance.act, hs, hp]

theorem Entrance.act_of_obstructed (hs : e.state = .obstructed) : e.act m = e.inObstructed := by simp [Entrance.act, hs]

theorem Entrance.act_of_out (hs : e.state = .breach ∨ e.state = .fault) : e.act m = e.untilLocked := by
  rcases hs with hs | hs <;> simp [Entrance.act, hs]

/-! ### The edges, and the fields no rule writes -/

/-- An entrance goes along an edge of its state machine, with its outputs and its alert's figures as they were. -/
structure Entrance.Goes (e e' : Entrance) : Prop where
  edge : entranceEdge e.state e'.state = true
  outputs : e'.outputs = e.outputs
  alerting : e'.alerting = e.alerting
  alertTimer : e'.alertTimer = e.alertTimer

theorem Entrance.Goes.refl (e : Entrance) : e.Goes e := ⟨by cases e.state <;> rfl, rfl, rfl, rfl⟩

/-- A change of phase, timers or count within a state. -/
theorem Entrance.Goes.within (e : Entrance) (phase : Phase) (timer saved : Nat) :
    e.Goes { e with phase, timer, saved } := ⟨(Entrance.Goes.refl e).edge, rfl, rfl, rfl⟩

/-- FAULT is reached from every state (R133). -/
theorem Entrance.toFault_goes (e : Entrance) (cause : EntranceCause) : e.Goes (e.toFault cause) :=
  ⟨by cases h : e.state <;> rfl, rfl, rfl, rfl⟩

theorem Entrance.toLocked_goes (h : entranceEdge e.state .locked = true) : e.Goes e.toLocked := ⟨h, rfl, rfl, rfl⟩

theorem Entrance.toOpened_goes (h : entranceEdge e.state .opened = true) : e.Goes e.toOpened := ⟨h, rfl, rfl, rfl⟩

theorem Entrance.toPhase_goes {st : EntranceState} (h : entranceEdge e.state st = true) (p : Phase) :
    e.Goes (e.toPhase st p) := ⟨h, rfl, rfl, rfl⟩

theorem Entrance.obstruct_goes (h : e.state = .closing) : e.Goes e.obstruct := ⟨by rw [h]; rfl, rfl, rfl, rfl⟩

theorem Entrance.timed_goes (e : Entrance) (limit : Nat) (cause : EntranceCause) : e.Goes (e.timed limit cause) := by
  unfold Entrance.timed
  split
  · exact .within e _ _ _
  · exact e.toFault_goes cause

theorem Entrance.inLocked_goes (hs : e.state = .locked) : e.Goes (e.inLocked m) := by
  unfold Entrance.inLocked
  split
  · exact ⟨by rw [hs]; rfl, rfl, rfl, rfl⟩
  · split
    · exact Entrance.toPhase_goes (by rw [hs]; rfl) _
    · exact .refl e

theorem Entrance.inHeld_goes (hs : e.state = .released) : e.Goes e.inHeld := by
  have hopen : entranceEdge e.state .opened = true := by rw [hs]; rfl
  unfold Entrance.inHeld
  split
  · exact Entrance.toOpened_goes hopen
  split
  · exact Entrance.toOpened_goes hopen
  split
  · exact Entrance.toPhase_goes (by rw [hs]; rfl) _
  · exact .refl e

theorem Entrance.inRelocking_goes (hs : e.state = .released) : e.Goes e.inRelocking := by
  unfold Entrance.inRelocking
  split
  · exact Entrance.toPhase_goes (by rw [hs]; rfl) _
  split
  · exact Entrance.toLocked_goes (by rw [hs]; rfl)
  split
  · exact Entrance.toOpened_goes (by rw [hs]; rfl)
  · exact e.timed_goes _ _

theorem Entrance.inOpened_goes (hs : e.state = .opened) : e.Goes e.inOpened := by
  unfold Entrance.inOpened
  split
  · exact Entrance.toPhase_goes (by rw [hs]; rfl) _
  · exact .refl e

theorem Entrance.inDriving_goes (hs : e.state = .closing) : e.Goes e.inDriving := by
  unfold Entrance.inDriving
  split
  · exact Entrance.toOpened_goes (by rw [hs]; rfl)
  split
  · exact Entrance.obstruct_goes hs
  split
  · exact .within e _ _ _
  · exact e.timed_goes _ _

theorem Entrance.inLatching_goes (hs : e.state = .closing) : e.Goes e.inLatching := by
  unfold Entrance.inLatching
  split
  · exact Entrance.toOpened_goes (by rw [hs]; rfl)
  split
  · exact Entrance.obstruct_goes hs
  split
  · exact Entrance.toLocked_goes (by rw [hs]; rfl)
  split
  · exact .within e _ _ _
  · exact e.timed_goes _ _

theorem Entrance.inObstructed_goes (hs : e.state = .obstructed) : e.Goes e.inObstructed := by
  unfold Entrance.inObstructed Entrance.reopened
  split
  · exact Entrance.toOpened_goes (by rw [hs]; rfl)
  split
  · exact .within e _ _ _
  split
  · exact ⟨by rw [hs]; rfl, rfl, rfl, rfl⟩
  · exact ⟨by rw [hs]; rfl, rfl, rfl, rfl⟩

theorem Entrance.untilLocked_goes (hs : e.state = .breach ∨ e.state = .fault) : e.Goes e.untilLocked := by
  unfold Entrance.untilLocked
  split
  · exact Entrance.toLocked_goes (by rcases hs with hs | hs <;> rw [hs] <;> rfl)
  · exact .refl e

theorem Entrance.act_goes (e : Entrance) (m : Bool) : e.Goes (e.act m) := by
  cases hs : e.state with
  | locked => exact Entrance.act_of_locked hs ▸ Entrance.inLocked_goes hs
  | released =>
    by_cases hp : e.phase = .relocking
    · exact Entrance.act_of_relocking hs hp ▸ Entrance.inRelocking_goes hs
    · exact Entrance.act_of_held hs hp ▸ Entrance.inHeld_goes hs
  | opened => exact Entrance.act_of_opened hs ▸ Entrance.inOpened_goes hs
  | closing =>
    by_cases hp : e.phase = .latching
    · exact Entrance.act_of_latching hs hp ▸ Entrance.inLatching_goes hs
    · exact Entrance.act_of_driving hs hp ▸ Entrance.inDriving_goes hs
  | obstructed => exact Entrance.act_of_obstructed hs ▸ Entrance.inObstructed_goes hs
  | breach => exact Entrance.act_of_out (.inl hs) ▸ Entrance.untilLocked_goes (.inl hs)
  | fault => exact Entrance.act_of_out (.inr hs) ▸ Entrance.untilLocked_goes (.inr hs)

/-- Stage 2 takes an entrance along one edge at most. -/
theorem Entrance.step_goes (e : Entrance) (m : Bool) : e.Goes (e.step m) := by
  unfold Entrance.step
  split
  · exact e.toFault_goes _
  · exact e.act_goes m

/-! ### The moves, clause by clause (R133 to R139) -/

theorem Entrance.timed_eq (e : Entrance) (limit : Nat) (cause : EntranceCause) : e.timed limit cause =
    if e.timer < limit - 10 then { e with timer := e.timer + 10 }
    else { e with state := .fault, phase := .none, timer := 0, cause } := by
  simp only [Entrance.timed, Nat.lt_sub_iff_add_lt]
  rfl

/-- Stage 2 moves an entrance by the rule of its state, `free` being the conditions of a release but for the bit. -/
theorem Entrance.step_movesTo {free : Prop} (hm : m = true ↔ free) (e : Entrance) : e.MovesTo (e.step m) free where
  inconsistent hl hc hs := Entrance.step_of_inconsistent hl hc hs
  breach hs hl := by
    rw [Entrance.step_of_consistent (.inl hl), Entrance.act_of_locked hs]
    simp [Entrance.inLocked, hl]
  release hs hc hl hb hf := by
    rw [Entrance.step_of_consistent (.inr (.inl hc)), Entrance.act_of_locked hs]
    simp [Entrance.inLocked, hc, hl, hb, hm.2 hf, Entrance.toPhase]
  staysLocked hs hc hl hb := by
    have hbarred : (e.bit && m) = false := by
      rw [← hm] at hb
      simpa [or_iff_not_imp_left] using hb
    rw [Entrance.step_of_consistent (.inr (.inl hc)), Entrance.act_of_locked hs]
    simp [Entrance.inLocked, hc, hl, hbarred]
  heldOpens hs hp hcons hopen := by
    rw [Entrance.step_of_consistent (hcons.imp_right .inl), Entrance.act_of_held hs hp]
    rcases hopen with hc | ⟨hb, hbutton⟩
    · simp [Entrance.inHeld, hc, Entrance.toOpened]
    · simp [Entrance.inHeld, hb, hbutton, Entrance.toOpened]
  relock hs hp hc hb := by
    rw [Entrance.step_of_consistent (.inr (.inl hc)), Entrance.act_of_held hs hp]
    simp [Entrance.inHeld, hc, hb, Entrance.toPhase, ← hs]
  staysHeld hs hp hc hb hbutton := by
    rw [Entrance.step_of_consistent (.inr (.inl hc)), Entrance.act_of_held hs hp]
    simp [Entrance.inHeld, hc, hb, hbutton]
  heldAgain hs hp hcons hb := by
    rw [Entrance.step_of_consistent (hcons.imp_right .inl), Entrance.act_of_relocking hs hp]
    simp [Entrance.inRelocking, hb, Entrance.toPhase, ← hs]
  relocked hs hp hb hl hc := by
    rw [Entrance.step_of_consistent (.inr (.inl hc)), Entrance.act_of_relocking hs hp]
    simp [Entrance.inRelocking, hb, hl, hc, Entrance.toLocked]
  pushed hs hp hb hl hc := by
    rw [Entrance.step_of_consistent (.inl hl), Entrance.act_of_relocking hs hp]
    simp [Entrance.inRelocking, hb, hc, Entrance.toOpened]
  relocking hs hp hb hl hc := by
    rw [Entrance.step_of_consistent (.inl hl), Entrance.act_of_relocking hs hp]
    simp [Entrance.inRelocking, hb, hl, hc, Entrance.timed_eq]
  closes hs hcons hb hr := by
    rw [Entrance.step_of_consistent (hcons.imp_right .inl), Entrance.act_of_opened hs]
    simp [Entrance.inOpened, hb, hr, Entrance.toPhase]
  staysOpen hs hcons hstay := by
    rw [Entrance.step_of_consistent (hcons.imp_right .inl), Entrance.act_of_opened hs]
    rcases hstay with hb | hr
    · simp [Entrance.inOpened, hb]
    · simp [Entrance.inOpened, hr]
  reopens hs hcons hb := by
    rw [Entrance.step_of_consistent (hcons.imp_right .inl)]
    rcases hs with hs | hs
    · by_cases hp : e.phase = .latching
      · rw [Entrance.act_of_latching hs hp]
        exact if_pos hb
      · rw [Entrance.act_of_driving hs hp]
        exact if_pos hb
    · rw [Entrance.act_of_obstructed hs]
      exact if_pos hb
  obstructed hs hcons hb hedge := by
    rw [Entrance.step_of_consistent (hcons.imp_right .inl), ← growTo_eq_min]
    by_cases hp : e.phase = .latching
    · simp [Entrance.act_of_latching hs hp, Entrance.inLatching, hb, hedge, Entrance.obstruct]
    · simp [Entrance.act_of_driving hs hp, Entrance.inDriving, hb, hedge, Entrance.obstruct]
  shut hs hp hb hedge hc := by
    rw [Entrance.step_of_consistent (.inr (.inl hc)), Entrance.act_of_driving hs hp]
    simp [Entrance.inDriving, hb, hedge, hc]
  driving hs hp hl hb hedge hc := by
    rw [Entrance.step_of_consistent (.inl hl), Entrance.act_of_driving hs hp]
    simp [Entrance.inDriving, hb, hedge, hc, Entrance.timed_eq]
  latched hs hp hc hb hedge hl := by
    rw [Entrance.step_of_consistent (.inr (.inl hc)), Entrance.act_of_latching hs hp]
    simp [Entrance.inLatching, hb, hedge, hl, Entrance.toLocked]
  bounced hs hp hl hb hedge hc := by
    rw [Entrance.step_of_consistent (.inl hl), Entrance.act_of_latching hs hp]
    simp [Entrance.inLatching, hb, hedge, hl, hc]
  latching hs hp hl hb hedge hc := by
    rw [Entrance.step_of_consistent (.inl hl), Entrance.act_of_latching hs hp]
    simp [Entrance.inLatching, hb, hedge, hl, hc, Entrance.timed_eq]
  reversing hs hcons hb := by
    rw [Entrance.step_of_consistent (hcons.imp_right .inl), Entrance.act_of_obstructed hs]
    simp [Entrance.inObstructed, hb, ← Nat.lt_sub_iff_add_lt, Entrance.reopened, Entrance.toPhase, Entrance.toOpened]
  restored hs hc hl := by
    rw [Entrance.step_of_consistent (.inr (.inl hc)), Entrance.act_of_out hs]
    simp [Entrance.untilLocked, hc, hl, Entrance.toLocked]
  staysOut h := by
    rcases h with ⟨hs, hl⟩ | ⟨hs, hopen⟩
    · rw [Entrance.step_of_consistent (.inl hl), Entrance.act_of_out (.inl hs)]
      simp [Entrance.untilLocked, hl]
    · rw [Entrance.step_of_consistent (.inr (.inr hs)), Entrance.act_of_out (.inr hs)]
      rcases hopen with hc | hl
      · simp [Entrance.untilLocked, hc]
      · simp [Entrance.untilLocked, hl]

/-! ### Stages 3 to 5 (R132, R139) -/

/-- The alert's 20 ms have run out, or it has not begun (R139). -/
def Entrance.frameDue (e : Entrance) : Bool := !e.alerting || e.alertTimer == 0

/-- A record after the alert's stage, `fast` telling whether the own speed is above 50. -/
def Entrance.alerted (e : Entrance) (fast : Bool) : Entrance :=
  { e with
    alerting := e.isBreach && fast
    alertTimer := if e.isBreach && fast then (if e.frameDue then 20 else e.alertTimer) else 0 }

theorem Entrance.alerted_of_due {fast : Bool} (hb : (e.isBreach && fast) = true) (hd : e.frameDue = true) :
    e.alerted fast = { e with alerting := true, alertTimer := 20 } := by simp [Entrance.alerted, hb, hd]

/-- Between two frames nothing changes. -/
theorem Entrance.alerted_of_waiting {fast : Bool} (hb : (e.isBreach && fast) = true) (hd : e.frameDue = false) :
    e.alerted fast = e := by
  have ha : e.alerting = true := by simp_all [Entrance.frameDue]
  calc e.alerted fast = { e with alerting := true } := by simp [Entrance.alerted, hb, hd]
    _ = e := by rw [← ha]

theorem Entrance.alerted_of_quiet {fast : Bool} (hb : (e.isBreach && fast) = false) :
    e.alerted fast = { e with alerting := false, alertTimer := 0 } := by simp [Entrance.alerted, hb]

/-- A record after stages 3 to 5. -/
def Entrance.reported (e : Entrance) (fast : Bool) : Entrance := { e with outputs := e.outputsNow }.alerted fast


theorem Entrance.reported_alerting (e : Entrance) (fast : Bool) : (e.reported fast).alerting = (e.isBreach && fast) := rfl

theorem Entrance.reported_alertTimer (e : Entrance) (fast : Bool) : (e.reported fast).alertTimer =
    if (e.reported fast).alerting = false then 0 else if e.frameDue then 20 else e.alertTimer := by
  have hdef : (e.reported fast).alertTimer =
      if (e.reported fast).alerting then (if e.frameDue then 20 else e.alertTimer) else 0 := rfl
  rw [hdef]
  cases (e.reported fast).alerting <;> rfl

/-- The three outputs by state and phase (R132). -/
theorem Entrance.outputsNow_iff (e : Entrance) :
    (e.outputsNow.unlock = true ↔ (e.state = .released ∧ e.phase ≠ .relocking) ∨ e.state = .opened ∨
      (e.state = .closing ∧ e.phase ≠ .latching) ∨ e.state = .obstructed) ∧
    (e.outputsNow.openDrive = true ↔ e.state = .opened ∨ e.state = .obstructed) ∧
    (e.outputsNow.closeDrive = true ↔ e.state = .closing) := by
  unfold Entrance.outputsNow
  split <;> simp_all

end Sys2Proof.Machine
end

section
/-! PROOFS. The stages of an entrance period on the whole station: the records after each, the faults and the alerts they
bring, and the flags that stand by the records at the end. -/

namespace Sys2Proof.Machine

variable {s t u : State}

/-! ### What is left of the interlock (R144 to R147) -/

/-- The interlock without what the entrance period writes: the figures of the DEMAND computation. -/
def Interlock.cabPart (i : Interlock) : Interlock :=
  { i with records := ⟨none, none⟩, valve := false, terms := {}, ready := false, entLocked := false, anyBreach := false }

theorem Interlock.eq_of_cabPart {i j : Interlock} (h : j.cabPart = i.cabPart) : j = { i with
    records := j.records
    valve := j.valve
    terms := j.terms
    ready := j.ready
    entLocked := j.entLocked
    anyBreach := j.anyBreach } := by
  cases i
  cases j
  simpa [Interlock.cabPart] using h

theorem State.putEntrance_cabPart (s : State) (slot : Slot) (e : Entrance) :
    (s.putEntrance slot e).interlock.cabPart = s.interlock.cabPart := rfl

theorem State.readSlot_cabPart (s : State) (slot : Slot) (i : SlotInputs) :
    (s.readSlot slot i).interlock.cabPart = s.interlock.cabPart := by
  unfold State.readSlot
  split
  · exact s.putEntrance_cabPart slot _
  · rfl

theorem State.moveEntrance_cabPart (s : State) (slot : Slot) (a b : Entrance) :
    (s.moveEntrance slot a b).interlock.cabPart = s.interlock.cabPart := by
  rw [State.moveEntrance_interlock]
  exact s.putEntrance_cabPart slot b

theorem State.stepSlot_cabPart (s : State) (slot : Slot) : (s.stepSlot slot).interlock.cabPart = s.interlock.cabPart := by
  unfold State.stepSlot
  split
  · split
    · exact s.moveEntrance_cabPart slot _ _
    · rfl
  · rfl

/-! ### Stages 1 and 2 on the station (R130, R131, R133) -/

theorem State.entrance_readSlot_of_ne (s : State) {slot other : Slot} (i : SlotInputs) (h : other ≠ slot) :
    (s.readSlot slot i).entrance other = s.entrance other := by
  unfold State.readSlot
  split
  · exact s.entrance_putEntrance_of_ne _ h
  · rfl

theorem State.entrance_stepSlot_of_ne (s : State) {slot other : Slot} (h : other ≠ slot) :
    (s.stepSlot slot).entrance other = s.entrance other := by
  unfold State.stepSlot State.moveEntrance
  split
  · split
    · next e _ =>
      exact (State.entrance_congr (s := s.putEntrance slot (e.step s.mayRelease)) (by simp) other).trans
        (s.entrance_putEntrance_of_ne _ h)
    · rfl
  · rfl

/-- The record that stage 1 hands to stage 2. -/
def State.recordRead (s : State) (slot : Slot) (i : SlotInputs) : Entrance :=
  .readFrom (s.entrance slot) i (s.releaseBit slot)

theorem State.recordRead_congr {slot : Slot} (he : t.entrance slot = s.entrance slot) (hp : t.peerView = s.peerView)
    (hu : t.startUp = s.startUp) (i : SlotInputs) : t.recordRead slot i = s.recordRead slot i := by
  simp only [State.recordRead, State.releaseBit, State.demand, State.globalNumber, State.own,
    he, hp, hu]

theorem State.entrance_readSlot (s : State) (slot : Slot) (i : SlotInputs) : (s.readSlot slot i).entrance slot =
    if s.slotFitted slot then some (s.recordRead slot i) else s.entrance slot := by
  unfold State.readSlot
  split
  · rw [State.entrance_putEntrance]
    simp [State.recordRead, Entrance.readFrom, Entrance.readInputs, madeEntrance]
  · rfl

theorem State.entrance_stepSlot (s : State) (slot : Slot) : (s.stepSlot slot).entrance slot =
    if s.slotFitted slot then (s.entrance slot).map (·.step s.mayRelease) else s.entrance slot := by
  unfold State.stepSlot State.moveEntrance
  split
  · cases he : s.entrance slot with
    | none => exact he
    | some e =>
      exact (State.entrance_congr (s := s.putEntrance slot (e.step s.mayRelease)) (by simp) slot).trans
        (s.entrance_putEntrance slot _)
  · rfl

/-- The slot's entrance is in FAULT. -/
def State.inFault (s : State) (slot : Slot) : Bool := (s.entrance slot).any fun e => e.state == .fault

theorem State.moveEntrance_faults (s : State) (slot : Slot) (a b : Entrance) : (s.moveEntrance slot a b).faults =
    s.faults.afterChange (a.state == .fault) (b.state == .fault) .entranceFault (s.globalNumber slot) := by
  by_cases ha : a.state = .fault <;> by_cases hb : b.state = .fault <;>
    simp [State.moveEntrance, State.entranceFault, FaultList.afterChange, ha, hb]

theorem FaultList.afterChange_same (f : FaultList) (b : Bool) (code : FaultCode) (n : Nat) :
    f.afterChange b b code n = f := by
  cases b <;> rfl

theorem State.stepSlot_faults (s : State) (slot : Slot) : (s.stepSlot slot).faults =
    s.faults.afterChange (s.inFault slot) ((s.stepSlot slot).inFault slot) .entranceFault (s.globalNumber slot) := by
  unfold State.inFault
  rw [s.entrance_stepSlot slot]
  unfold State.stepSlot
  split
  · cases he : s.entrance slot with
    | none => exact (FaultList.afterChange_same _ _ _ _).symm
    | some e => exact s.moveEntrance_faults slot e _
  · exact (FaultList.afterChange_same _ _ _ _).symm

/-- A record is not made in FAULT, nor read into it. -/
theorem State.inFault_readSlot (s : State) (slot other : Slot) (i : SlotInputs) :
    (s.readSlot slot i).inFault other = s.inFault other := by
  unfold State.inFault
  by_cases h : other = slot
  · subst h
    rw [s.entrance_readSlot other i]
    split
    · cases he : s.entrance other with
      | none =>
        simp only [State.recordRead, Entrance.readFrom, he, Option.getD_none, Option.any_some, Option.any_none]
        split <;> rfl
      | some e => simp [State.recordRead, Entrance.readFrom, he]
    · rfl
  · rw [s.entrance_readSlot_of_ne i h]

/-- The station after stages 1 and 2 of an entrance period. -/
def State.entrancesMoved (s : State) (i : Slots SlotInputs) : State :=
  (((s.readSlot .zero i.zero).readSlot .one i.one).stepSlot .zero).stepSlot .one

theorem State.entrancePeriod_of_loaded (h : s.loaded = true) (i : Slots SlotInputs) :
    s.entrancePeriod i = (s.entrancesMoved i).entranceReport.checkSweep := if_pos h

/-- Stages 1 and 2 write the records and the faults. -/
theorem State.entrancesMoved_frame (s : State) (i : Slots SlotInputs) : s.entrancesMoved i = { s with
    interlock := (s.entrancesMoved i).interlock
    faults := (s.entrancesMoved i).faults } := by
  apply State.eq_of_blocks <;> simp [State.entrancesMoved]

theorem State.entrancesMoved_cabPart (s : State) (i : Slots SlotInputs) :
    (s.entrancesMoved i).interlock.cabPart = s.interlock.cabPart := by
  simp only [State.entrancesMoved, State.stepSlot_cabPart, State.readSlot_cabPart]

theorem State.slotFitted_congr (h : t.startUp = s.startUp) (slot : Slot) : t.slotFitted slot = s.slotFitted slot := by
  simp only [State.slotFitted, State.cfg, h]

theorem State.mayRelease_congr (hm : t.ladder = s.ladder) (hb : t.brake = s.brake) (hu : t.startUp = s.startUp) :
    t.mayRelease = s.mayRelease := by
  simp only [State.mayRelease, State.coilFailed, State.coil, State.sweeping, hm, hb, hu]

/-- A release is free but for its bit (R134). -/
theorem State.mayRelease_iff (s : State) : s.mayRelease = true ↔ s.brake.confirmed = true ∧ s.coilFailed 8 = false ∧
    s.sweeping = false ∧
    (s.ladder.mode = .stop ∨ s.ladder.mode = .kneel ∨ s.ladder.mode = .knelt ∨ s.ladder.mode = .park) := by
  simp only [State.mayRelease, releaseMode, Bool.and_eq_true, Bool.or_eq_true, beq_iff_eq, Bool.not_eq_true']
  tauto

/-- Each slot's record after stages 1 and 2, whatever the other slot does. -/
theorem State.entrancesMoved_entrance (s : State) (i : Slots SlotInputs) (slot : Slot) :
    (s.entrancesMoved i).entrance slot =
      if s.slotFitted slot then some ((s.recordRead slot (atSlot i slot)).step s.mayRelease) else s.entrance slot := by
  cases slot with
  | zero =>
    have hread : ((s.readSlot .zero i.zero).readSlot .one i.one).entrance .zero =
        if s.slotFitted .zero then some (s.recordRead .zero i.zero) else s.entrance .zero := by
      rw [State.entrance_readSlot_of_ne _ _ (by decide), State.entrance_readSlot]
    rw [State.entrancesMoved, State.entrance_stepSlot_of_ne _ (by decide), State.entrance_stepSlot, hread,
      State.slotFitted_congr (s := s) (by simp), State.mayRelease_congr (s := s) (by simp) (by simp) (by simp)]
    split <;> rfl
  | one =>
    have hread : (((s.readSlot .zero i.zero).readSlot .one i.one).stepSlot .zero).entrance .one =
        if s.slotFitted .one then some (s.recordRead .one i.one) else s.entrance .one := by
      have hzero : (s.readSlot .zero i.zero).entrance .one = s.entrance .one :=
        s.entrance_readSlot_of_ne _ (by decide)
      rw [State.entrance_stepSlot_of_ne _ (by decide), State.entrance_readSlot, hzero,
        State.slotFitted_congr (s := s) (by simp), State.recordRead_congr hzero (by simp) (by simp)]
    rw [State.entrancesMoved, State.entrance_stepSlot, hread, State.slotFitted_congr (s := s) (by simp),
      State.mayRelease_congr (s := s) (by simp) (by simp) (by simp)]
    split <;> rfl

/-- The faults of stage 2, slot 0's before slot 1's. -/
theorem State.entrancesMoved_faults (s : State) (i : Slots SlotInputs) : (s.entrancesMoved i).faults =
    (s.faults.afterChange (s.inFault .zero) ((s.entrancesMoved i).inFault .zero) .entranceFault
      (s.globalNumber .zero)).afterChange (s.inFault .one) ((s.entrancesMoved i).inFault .one) .entranceFault
      (s.globalNumber .one) := by
  have hzero : (s.entrancesMoved i).inFault .zero =
      (((s.readSlot .zero i.zero).readSlot .one i.one).stepSlot .zero).inFault .zero := by
    rw [State.inFault, State.entrancesMoved, State.entrance_stepSlot_of_ne _ (by decide), State.inFault]
  have hone : (((s.readSlot .zero i.zero).readSlot .one i.one).stepSlot .zero).inFault .one = s.inFault .one := by
    rw [State.inFault, State.entrance_stepSlot_of_ne _ (by decide), ← State.inFault, State.inFault_readSlot,
      State.inFault_readSlot]
  rw [hzero, State.entrancesMoved, State.stepSlot_faults _ .one, hone, State.stepSlot_faults _ .zero,
    State.inFault_readSlot, State.inFault_readSlot]
  simp [State.globalNumber, State.own]

/-! ### The alert of one slot (R139) -/

/-- The alert of a slot's entrance is queued at stage 5. -/
def State.frameDue (s : State) (slot : Slot) : Bool :=
  (s.entrance slot).any fun e => s.breachAlertHolds e && e.frameDue

/-- A slot's record with its alert's figures. -/
def State.alertNoted (s : State) (slot : Slot) (e : Entrance) : State :=
  s.putEntrance slot (e.alerted (decide (50 < s.ownSpeed)))

theorem State.putEntrance_self {slot : Slot} {e : Entrance} (h : s.entrance slot = some e) : s.putEntrance slot e = s := by
  cases slot <;> simp only [State.entrance, atSlot] at h <;> simp [State.putEntrance, putSlot, ← h]

/-- The record takes its alert's figures, and the frame is offered when it is due. -/
theorem State.breachAlert_of_some {slot : Slot} {e : Entrance} (h : s.entrance slot = some e) : s.breachAlert slot =
    if s.frameDue slot then (s.alertNoted slot e).offerAlert .entranceBreach (s.globalNumber slot)
    else s.alertNoted slot e := by
  have hcond : s.frameDue slot = (s.breachAlertHolds e && e.frameDue) := by simp [State.frameDue, h]
  rw [hcond, State.alertNoted]
  unfold State.breachAlert
  rw [h]
  by_cases hb : s.breachAlertHolds e = true
  · by_cases hd : e.frameDue = true
    · rw [Entrance.alerted_of_due hb hd]
      simp only [hb, hd, Bool.and_self, if_true]
      exact if_pos hd
    · simp only [Bool.not_eq_true] at hd
      rw [Entrance.alerted_of_waiting hb hd, State.putEntrance_self h]
      simp only [hb, hd, Bool.and_false, if_true]
      exact if_neg (Bool.eq_false_iff.1 hd)
  · simp only [Bool.not_eq_true] at hb
    rw [Entrance.alerted_of_quiet hb]
    simp only [hb, Bool.false_and]
    rfl

theorem State.breachAlert_interlock {slot : Slot} {e : Entrance} (h : s.entrance slot = some e) :
    (s.breachAlert slot).interlock = (s.alertNoted slot e).interlock := by
  rw [State.breachAlert_of_some h]
  split <;> simp

theorem State.breachAlert_of_none {slot : Slot} (h : s.entrance slot = none) : s.breachAlert slot = s := by
  simp [State.breachAlert, h]

theorem State.entrance_breachAlert (s : State) (slot : Slot) :
    (s.breachAlert slot).entrance slot = (s.entrance slot).map (·.alerted (decide (50 < s.ownSpeed))) := by
  cases he : s.entrance slot with
  | none => rw [State.breachAlert_of_none he, he]; rfl
  | some e =>
    rw [State.entrance_congr (congrArg (·.records) (State.breachAlert_interlock he))]
    exact s.entrance_putEntrance slot _

theorem State.entrance_breachAlert_of_ne (s : State) {slot other : Slot} (h : other ≠ slot) :
    (s.breachAlert slot).entrance other = s.entrance other := by
  cases he : s.entrance slot with
  | none => rw [State.breachAlert_of_none he]
  | some e =>
    rw [State.entrance_congr (congrArg (·.records) (State.breachAlert_interlock he))]
    exact s.entrance_putEntrance_of_ne _ h

/-- An alert writes nothing of the interlock but the records. -/
theorem State.breachAlert_flags (s : State) (slot : Slot) : (s.breachAlert slot).interlock =
    { s.interlock with records := (s.breachAlert slot).interlock.records } := by
  cases he : s.entrance slot with
  | none => rw [State.breachAlert_of_none he]
  | some e => rw [State.breachAlert_interlock he]; rfl

/-- What the alert does to the link and the reply slot, in a state that has those of `s`. -/
theorem State.breachAlert_offers (hl : u.link = s.link) (hv : u.service = s.service) (slot : Slot) {a : State}
    (ha : a = if u.frameDue slot then s.offerAlert .entranceBreach (u.globalNumber slot) else s) :
    (u.breachAlert slot).link = a.link ∧ (u.breachAlert slot).service = a.service := by
  subst ha
  cases he : u.entrance slot with
  | none =>
    rw [State.breachAlert_of_none he, if_neg (by simp [State.frameDue, he])]
    exact ⟨hl, hv⟩
  | some e =>
    rw [State.breachAlert_of_some he]
    split
    · exact State.offerAlert_congr (by exact hl) (by exact hv) _ _
    · exact ⟨hl, hv⟩

end Sys2Proof.Machine
end

section
/-! PROOFS. Stages 3 to 5 of an entrance period, the whole period, and the statements on it and on its timers. -/

namespace Sys2Proof.Machine

variable {s t : State}

/-! ### Stages 3 to 5 on the station (R131, R132, R141 to R143) -/

/-- The station after stages 3 and 4, with the flags of stage 5 set and its alerts still to come. -/
def State.flagged (s : State) : State := s.setOutputs.setValve.setFlags

theorem State.entranceReport_eq (s : State) : s.entranceReport = (s.flagged.breachAlert .zero).breachAlert .one := rfl

theorem State.entrance_flagged (s : State) (slot : Slot) :
    s.flagged.entrance slot = (s.entrance slot).map fun e => { e with outputs := e.outputsNow } := by
  cases slot <;> rfl

theorem State.flagged_frameDue (s : State) (slot : Slot) : s.flagged.frameDue slot = s.frameDue slot := by
  rw [State.frameDue, State.entrance_flagged, Option.any_map]
  rfl

theorem State.ownSpeed_congr (h : t.slip = s.slip) : t.ownSpeed = s.ownSpeed := by simp only [State.ownSpeed, h]

theorem State.frameDue_congr {slot : Slot} (he : t.entrance slot = s.entrance slot) (hs : t.slip = s.slip) :
    t.frameDue slot = s.frameDue slot := by
  simp only [State.frameDue, State.breachAlertHolds, State.ownSpeed_congr hs, he]

theorem State.globalNumber_congr (h : t.startUp = s.startUp) (slot : Slot) : t.globalNumber slot = s.globalNumber slot := by
  simp only [State.globalNumber, State.own, h]

theorem State.entrance_entranceReport (s : State) (slot : Slot) :
    s.entranceReport.entrance slot = (s.entrance slot).map (·.reported (decide (50 < s.ownSpeed))) := by
  have hspeed : (s.flagged.breachAlert .zero).ownSpeed = s.ownSpeed := State.ownSpeed_congr (by simp [State.flagged])
  have hflagged : s.flagged.ownSpeed = s.ownSpeed := rfl
  rw [State.entranceReport_eq]
  cases slot with
  | zero =>
    rw [State.entrance_breachAlert_of_ne _ (by decide), State.entrance_breachAlert, hflagged, State.entrance_flagged,
      Option.map_map]
    rfl
  | one =>
    rw [State.entrance_breachAlert, State.entrance_breachAlert_of_ne _ (by decide), hspeed, State.entrance_flagged,
      Option.map_map]
    rfl

theorem State.entranceReport_flags (s : State) : s.entranceReport.interlock =
    { s.flagged.interlock with records := s.entranceReport.interlock.records } := by
  rw [State.entranceReport_eq, State.breachAlert_flags _ .one, State.breachAlert_flags _ .zero]

theorem State.entranceReport_cabPart (s : State) : s.entranceReport.interlock.cabPart = s.interlock.cabPart := by
  rw [State.entranceReport_flags]
  rfl

/-- The alerts of stage 5, slot 0's before slot 1's, in a state with the link and the reply slot of `u`. -/
theorem State.entranceReport_offers {u a b : State} (hl : s.link = u.link) (hv : s.service = u.service)
    (ha : a = if s.frameDue .zero then u.offerAlert .entranceBreach (s.globalNumber .zero) else u)
    (hb : b = if s.frameDue .one then a.offerAlert .entranceBreach (s.globalNumber .one) else a) :
    s.entranceReport.link = b.link ∧ s.entranceReport.service = b.service := by
  rw [← s.flagged_frameDue] at ha
  obtain ⟨hlink, hservice⟩ := State.breachAlert_offers (u := s.flagged) (by exact hl) (by exact hv) .zero ha
  have hdue : (s.flagged.breachAlert .zero).frameDue .one = s.frameDue .one :=
    (State.frameDue_congr (s.flagged.entrance_breachAlert_of_ne (by decide)) (by simp)).trans (s.flagged_frameDue .one)
  rw [← hdue, ← State.globalNumber_congr (t := s.flagged.breachAlert .zero) (by simp [State.flagged])] at hb
  exact State.breachAlert_offers hlink hservice .one hb

/-! ### The flags by the records (R141 to R143) -/

theorem State.SameDoors.someEntrance {p : Entrance → Bool} (h : s.SameDoors t)
    (hp : ∀ a b : Entrance, a.state = b.state → p a = p b) : t.someEntrance p = s.someEntrance p := by
  have hstates : ∀ {s t : State}, s.SameDoors t → s.someEntrance p = true → t.someEntrance p = true := by
    intro s t h hs
    obtain ⟨slot, e, he, hpe⟩ := (s.someEntrance_iff p).1 hs
    obtain ⟨e', he', hstate⟩ := h.of_some he
    exact (t.someEntrance_iff p).2 ⟨slot, e', he', (hp _ _ hstate).trans hpe⟩
  exact Bool.eq_iff_iff.2 ⟨hstates h.symm, hstates h⟩

theorem State.SameDoors.allLocked_eq (h : s.SameDoors t) (hc : t.cfg = s.cfg) : t.allLocked = s.allLocked :=
  Bool.eq_iff_iff.2 ⟨h.symm.allLocked hc.symm, h.allLocked hc⟩

theorem State.SameDoors.breached (h : s.SameDoors t) : t.breached = s.breached :=
  h.someEntrance fun a b hab => by simp only [Entrance.isBreach, hab]

theorem State.SameDoors.valveTerms (h : s.SameDoors t) (hl : t.ladder = s.ladder) (hp : t.peerView = s.peerView)
    (hs : t.slip = s.slip) : t.valveTerms = s.valveTerms := by
  have hopen := h.someEntrance (p := Entrance.isOpenish) fun _ _ => Entrance.isOpenish_congr
  have hfault := h.someEntrance (p := Entrance.isFaulty) fun a b hab => by simp only [Entrance.isFaulty, hab]
  simp only [State.valveTerms, State.ownSpeed_congr hs, State.demand, hopen, hfault, hl, hp]

theorem State.readyNow_congr (hl : t.ladder = s.ladder) (hv : t.levelling = s.levelling) : t.readyNow = s.readyNow := by
  simp only [State.readyNow, hl, hv]

/-- The valve, its terms and the three flags stand by the records, the mode and the corners. -/
structure State.FlagsStand (s : State) : Prop where
  terms : s.interlock.terms = s.valveTerms
  valve : s.interlock.valve = s.valveTerms.any
  entLocked : s.interlock.entLocked = s.allLocked
  anyBreach : s.interlock.anyBreach = s.breached
  ready : s.interlock.ready = s.readyNow

theorem State.entranceReport_flagsStand (s : State) : s.entranceReport.FlagsStand := by
  have hdoors : s.setOutputs.SameDoors s.entranceReport := s.setOutputs_sameDoors.symm.trans s.entranceReport_sameDoors
  have hterms : s.entranceReport.valveTerms = s.setOutputs.valveTerms :=
    hdoors.valveTerms (by simp) (by simp) (by simp)
  have hlocked : s.entranceReport.allLocked = s.setOutputs.allLocked := hdoors.allLocked_eq (State.cfg_congr (by simp))
  have hready : s.entranceReport.readyNow = s.setOutputs.readyNow := State.readyNow_congr (by simp) (by simp)
  refine ⟨?_, ?_, ?_, ?_, ?_⟩ <;> rw [State.entranceReport_flags]
  · exact hterms.symm
  · exact (congrArg ValveTerms.any hterms).symm
  · exact hlocked.symm
  · exact hdoors.breached.symm
  · exact hready.symm

/-- The end of a sweep that the entrances break leaves the flags as they stand. -/
theorem State.FlagsStand.checkSweep (h : s.FlagsStand) : s.checkSweep.FlagsStand := by
  have hdoors : s.SameDoors s.checkSweep := .of_records (by simp)
  have hterms : s.checkSweep.valveTerms = s.valveTerms := hdoors.valveTerms (by simp) (by simp) (by simp)
  have hlocked : s.checkSweep.allLocked = s.allLocked := hdoors.allLocked_eq (State.cfg_congr (by simp))
  have hready : s.checkSweep.readyNow = s.readyNow := State.readyNow_congr (by simp) (by simp)
  have hinter : s.checkSweep.interlock = s.interlock := by simp
  refine ⟨?_, ?_, ?_, ?_, ?_⟩ <;> rw [hinter]
  · exact h.terms.trans hterms.symm
  · exact h.valve.trans (congrArg ValveTerms.any hterms).symm
  · exact h.entLocked.trans hlocked.symm
  · exact h.anyBreach.trans hdoors.breached.symm
  · exact h.ready.trans hready.symm

/-- The four terms of R141. -/
theorem State.valveTerms_iff (s : State) :
    (s.valveTerms.byMode = true ↔ s.ladder.mode = .park ∨ s.ladder.mode = .stop ∨ s.ladder.mode = .kneel ∨
      s.ladder.mode = .knelt ∨ s.ladder.mode = .raise) ∧
    (s.valveTerms.byStart = true ↔ s.ladder.mode = .start ∧ s.ladder.qualifier = .standstill) ∧
    (s.valveTerms.byOpen = true ↔ ∃ slot e, s.entrance slot = some e ∧
      (e.state = .released ∨ e.state = .opened ∨ e.state = .closing ∨ e.state = .obstructed)) ∧
    (s.valveTerms.byFault = true ↔ (∃ slot e, s.entrance slot = some e ∧ (e.state = .fault ∨ e.state = .breach)) ∧
      s.ownSpeed ≤ 50 ∧ s.demand.ovr = false) := by
  simp [State.valveTerms, valveMode, State.someEntrance_iff, Entrance.isOpenish, Entrance.isFaulty, or_assoc, and_assoc]

theorem ValveTerms.any_iff (v : ValveTerms) :
    v.any = true ↔ v.byMode = true ∨ v.byStart = true ∨ v.byOpen = true ∨ v.byFault = true := by
  simp [ValveTerms.any, or_assoc]

theorem State.breached_iff (s : State) : s.breached = true ↔ ∃ slot e, s.entrance slot = some e ∧ e.state = .breach := by
  simp [State.breached, State.someEntrance_iff, Entrance.isBreach]

theorem Corner.highEnough_iff (c : Corner) :
    c.highEnough = true ↔ ∀ h, c.height.valid = true → c.h = some h → -30 ≤ h := by
  unfold Corner.highEnough
  cases c.height.valid <;> cases c.h <;> simp

/-- READY (R143; a VALID corner without a height is log entry 20). -/
theorem State.readyNow_iff (s : State) : s.readyNow = true ↔
    (s.ladder.mode = .start ∨ s.ladder.mode = .stop ∨ s.ladder.mode = .drive ∨ s.ladder.mode = .backup) ∧
    (s.ladder.qualifier = .standstill →
      ∀ side h, (s.corner side).height.valid = true → (s.corner side).h = some h → -30 ≤ h) := by
  have hcorners : (!(s.ladder.qualifier == .standstill) || (s.levelling.corners.left.highEnough &&
      s.levelling.corners.right.highEnough)) = true ↔ (s.ladder.qualifier = .standstill →
        ∀ side h, (s.corner side).height.valid = true → (s.corner side).h = some h → -30 ≤ h) := by
    have hsides : (s.levelling.corners.left.highEnough && s.levelling.corners.right.highEnough) = true ↔
        ∀ side h, (s.corner side).height.valid = true → (s.corner side).h = some h → -30 ≤ h := by
      rw [Bool.and_eq_true, Corner.highEnough_iff, Corner.highEnough_iff]
      exact ⟨fun ⟨hl, hr⟩ side => by cases side; exacts [hl, hr], fun h => ⟨h .left, h .right⟩⟩
    rw [← hsides]
    by_cases hq : s.ladder.qualifier = .standstill <;> simp [hq]
  rw [← hcorners]
  unfold State.readyNow
  cases s.ladder.mode <;> simp

/-! ### The whole period -/

/-- Coil 8 follows the valve but for the sweep's test of it (R141, R167). -/
theorem State.coilOn_stopBrake (h : s.sweeping = false ∨ s.startUp.sweep.coil ≠ 8) : s.coilOn 8 = s.interlock.valve := by
  unfold State.coilOn
  split
  · next hs =>
    have hcoil : s.startUp.sweep.coil ≠ 8 := h.resolve_left (by simp [hs])
    simp [hcoil.symm]
  · rfl

theorem Entrance.step_of_reported (e : Entrance) (m fast : Bool) : { (e.step m).reported fast with
    outputs := e.outputs
    alerting := e.alerting
    alertTimer := e.alertTimer } = e.step m := by
  obtain ⟨-, houtputs, halerting, htimer⟩ := e.step_goes m
  rw [← houtputs, ← halerting, ← htimer]
  rfl

/-- Whether a frame is due hangs on the slot's record before the period. -/
theorem State.entrancesMoved_record_frameDue {i : Slots SlotInputs} {slot : Slot} {e : Entrance}
    (h : (s.entrancesMoved i).entrance slot = some e) :
    e.frameDue = !((s.entrance slot).any fun x => x.alerting && x.alertTimer != 0) := by
  have hold (x : Entrance) : x.frameDue = !(x.alerting && x.alertTimer != 0) := by
    simp only [Entrance.frameDue, bne, Bool.not_and, Bool.not_not]
  rw [State.entrancesMoved_entrance] at h
  split at h
  · obtain ⟨-, -, halerting, htimer⟩ := (s.recordRead slot (atSlot i slot)).step_goes s.mayRelease
    obtain rfl := Option.some.inj h
    rw [hold, halerting, htimer]
    cases he : s.entrance slot <;> simp [State.recordRead, Entrance.readFrom, he]
  · simp [h, hold]

section
variable (hl : s.loaded = true) (i : Slots SlotInputs)
include hl

theorem State.entrance_entrancePeriod (slot : Slot) : (s.entrancePeriod i).entrance slot =
    ((s.entrancesMoved i).entrance slot).map (·.reported (decide (50 < s.ownSpeed))) := by
  have hspeed : (s.entrancesMoved i).ownSpeed = s.ownSpeed := State.ownSpeed_congr (by rw [s.entrancesMoved_frame i])
  rw [State.entrancePeriod_of_loaded hl, State.entrance_congr (s := (s.entrancesMoved i).entranceReport) (by simp),
    State.entrance_entranceReport, hspeed]

/-- Each fitted slot's record after the period. -/
theorem State.entrance_entrancePeriod_of_fitted {slot : Slot} (hf : s.slotFitted slot = true) :
    (s.entrancePeriod i).entrance slot =
      some (((s.recordRead slot (atSlot i slot)).step s.mayRelease).reported (decide (50 < s.ownSpeed))) := by
  rw [State.entrance_entrancePeriod hl, State.entrancesMoved_entrance, if_pos hf]
  rfl

theorem State.entrancePeriod_interlock :
    (s.entrancePeriod i).interlock = (s.entrancesMoved i).entranceReport.interlock := by
  rw [State.entrancePeriod_of_loaded hl]
  simp

theorem State.entrancePeriod_cabPart : (s.entrancePeriod i).interlock.cabPart = s.interlock.cabPart := by
  rw [State.entrancePeriod_interlock hl, State.entranceReport_cabPart, State.entrancesMoved_cabPart]

theorem State.entrancePeriod_flagsStand : (s.entrancePeriod i).FlagsStand := by
  rw [State.entrancePeriod_of_loaded hl]
  exact (s.entrancesMoved i).entranceReport_flagsStand.checkSweep

theorem State.entrancePeriod_inFault (slot : Slot) :
    (s.entrancePeriod i).inFault slot = (s.entrancesMoved i).inFault slot := by
  rw [State.inFault, State.entrance_entrancePeriod hl, Option.any_map]
  rfl

theorem State.entrancePeriod_faults : (s.entrancePeriod i).faults =
    (s.faults.afterChange (s.inFault .zero) ((s.entrancePeriod i).inFault .zero) .entranceFault
      (s.globalNumber .zero)).afterChange (s.inFault .one) ((s.entrancePeriod i).inFault .one) .entranceFault
      (s.globalNumber .one) := by
  rw [State.entrancePeriod_inFault hl, State.entrancePeriod_inFault hl, ← State.entrancesMoved_faults,
    State.entrancePeriod_of_loaded hl]
  simp

theorem State.entrancePeriod_breachFrameDue (slot : Slot) :
    (s.entrancePeriod i).breachFrameDue slot (s.entrance slot) = (s.entrancesMoved i).frameDue slot := by
  have hspeed : (s.entrancePeriod i).ownSpeed = (s.entrancesMoved i).ownSpeed :=
    State.ownSpeed_congr (by simp [State.entrancesMoved])
  rw [State.breachFrameDue, State.frameDue, State.entrance_entrancePeriod hl, hspeed]
  cases he : (s.entrancesMoved i).entrance slot with
  | none => rfl
  | some e =>
    simp only [Option.map_some, Option.any_some, ← State.entrancesMoved_record_frameDue he]
    rfl

/-- The alerts of the period, and the watch of a sweep after them (R139, R169; log entries 34 and 39). -/
theorem State.entrancePeriod_watches {a b v : State}
    (ha : a = if (s.entrancePeriod i).breachFrameDue .zero (s.entrance .zero) = true then
      s.offerAlert .entranceBreach (2 * s.own.val) else s)
    (hb : b = if (s.entrancePeriod i).breachFrameDue .one (s.entrance .one) = true then
      a.offerAlert .entranceBreach (2 * s.own.val + 1) else a)
    (hv : v = { s with
      interlock := (s.entrancePeriod i).interlock
      faults := (s.entrancePeriod i).faults
      link := b.link
      service := b.service }) : v.SweepWatches (s.entrancePeriod i) := by
  have hframe := s.entrancesMoved_frame i
  have hnumber (slot : Slot) : (s.entrancesMoved i).globalNumber slot = s.globalNumber slot :=
    State.globalNumber_congr (by rw [hframe]) slot
  rw [State.entrancePeriod_breachFrameDue hl] at ha hb
  obtain ⟨hlink, hservice⟩ := State.entranceReport_offers (s := s.entrancesMoved i) (u := s) (a := a) (b := b)
    (by rw [hframe]) (by rw [hframe]) (by rw [hnumber]; exact ha) (by rw [hnumber]; exact hb)
  have hbefore : v = (s.entrancesMoved i).entranceReport := by
    rw [hv, ← hlink, ← hservice, State.entrancePeriod_of_loaded hl]
    apply State.eq_of_blocks <;> simp [State.entrancesMoved]
  rw [hbefore, State.entrancePeriod_of_loaded hl]
  exact State.checkSweep_watches _

/-- A fitted slot through the period: the move of its state, its edge, its outputs and its alert's figures. -/
theorem State.entrancePeriod_slot {slot : Slot} {e : Entrance} (hf : s.slotFitted slot = true)
    (he : e = s.recordRead slot (atSlot i slot)) : ∃ e', (s.entrancePeriod i).entrance slot = some e' ∧
      e.MovesTo { e' with
          outputs := e.outputs
          alerting := e.alerting
          alertTimer := e.alertTimer }
        (s.brake.confirmed = true ∧ s.coilFailed 8 = false ∧ s.sweeping = false ∧
          (s.ladder.mode = .stop ∨ s.ladder.mode = .kneel ∨ s.ladder.mode = .knelt ∨ s.ladder.mode = .park)) ∧
      entranceEdge e.state e'.state = true ∧
      (e'.outputs.unlock = true ↔ (e'.state = .released ∧ e'.phase ≠ .relocking) ∨ e'.state = .opened ∨
        (e'.state = .closing ∧ e'.phase ≠ .latching) ∨ e'.state = .obstructed) ∧
      (e'.outputs.openDrive = true ↔ e'.state = .opened ∨ e'.state = .obstructed) ∧
      (e'.outputs.closeDrive = true ↔ e'.state = .closing) ∧
      (e'.alerting = true ↔ e'.state = .breach ∧ 50 < s.ownSpeed) ∧
      e'.alertTimer = (if e'.alerting = false then 0
        else if (s.entrancePeriod i).breachFrameDue slot (s.entrance slot) = true then 20 else e.alertTimer) := by
  subst he
  set e := s.recordRead slot (atSlot i slot)
  obtain ⟨hedge, -, -, htimer⟩ := e.step_goes s.mayRelease
  obtain ⟨hunlock, hopen, hclose⟩ := (e.step s.mayRelease).outputsNow_iff
  have halerting : ((e.step s.mayRelease).reported (decide (50 < s.ownSpeed))).alerting = true ↔
      (e.step s.mayRelease).state = .breach ∧ 50 < s.ownSpeed := by
    simp [Entrance.reported_alerting, Entrance.isBreach]
  refine ⟨_, State.entrance_entrancePeriod_of_fitted hl i hf, ?_, hedge, hunlock, hopen, hclose, halerting, ?_⟩
  · rw [Entrance.step_of_reported]
    exact Entrance.step_movesTo s.mayRelease_iff e
  · have hmoved : (s.entrancesMoved i).entrance slot = some (e.step s.mayRelease) := by
      rw [State.entrancesMoved_entrance, if_pos hf]
    rw [Entrance.reported_alertTimer, htimer, State.entrancePeriod_breachFrameDue hl, State.frameDue, hmoved]
    by_cases h : ((e.step s.mayRelease).reported (decide (50 < s.ownSpeed))).alerting = false
    · rw [if_pos h, if_pos h]
    · have hspeed : (s.entrancesMoved i).ownSpeed = s.ownSpeed := State.ownSpeed_congr (by simp [State.entrancesMoved])
      have hholds : (s.entrancesMoved i).breachAlertHolds (e.step s.mayRelease) = true := by
        rw [State.breachAlertHolds, hspeed, ← Entrance.reported_alerting]
        exact Bool.not_eq_false _ ▸ h
      rw [if_neg h, if_neg h, Option.any_some, hholds, Bool.true_and]

end

/-- Settles O41: the clauses in their order, each by the stages that bring it about. -/
theorem entrancePeriodRunsTheMachines : Obligations.EntrancePeriodRunsTheMachines := by
  intro i s hl
  have hcfg : (s.entrancePeriod i).cfg = s.cfg :=
    State.cfg_congr (by rw [State.entrancePeriod_of_loaded hl]; simp [State.entrancesMoved])
  have hladder : (s.entrancePeriod i).ladder = s.ladder := by simp
  have hspeed : (s.entrancePeriod i).ownSpeed = s.ownSpeed := State.ownSpeed_congr (by simp)
  have hdemand : (s.entrancePeriod i).demand = s.demand := by simp [State.demand]
  have hcorner (side : Side) : (s.entrancePeriod i).corner side = s.corner side := by simp [State.corner]
  have hflags := State.entrancePeriod_flagsStand hl i
  obtain ⟨hmode, hstart, hopen, hfault⟩ := (s.entrancePeriod i).valveTerms_iff
  refine ⟨s.entrancePeriod i, rfl, ?_, fun slot hf hn => ?_, fun slot e hf he => State.entrancePeriod_slot hl i hf he,
    State.entrancePeriod_faults hl i, fun a b v => State.entrancePeriod_watches hl i, fun h => ?_, ?_, ?_, ?_, ?_, ?_, ?_,
    ?_, ?_⟩
  · apply State.eq_of_blocks
    case h11 => exact Interlock.eq_of_cabPart (State.entrancePeriod_cabPart hl i)
    all_goals simp
  · rw [State.entrance_entrancePeriod hl, State.entrancesMoved_entrance, hf, hn]
    rfl
  · rw [State.coilOn_stopBrake h]
  · rw [hflags.terms, hmode, hladder]
  · rw [hflags.terms, hstart, hladder]
  · rw [hflags.terms, hopen]
  · rw [hflags.terms, hfault, hspeed, hdemand]
  · rw [hflags.valve, hflags.terms, ValveTerms.any_iff]
  · rw [hflags.entLocked, State.allLocked_iff, State.OwnEntrances, hcfg]
    rfl
  · rw [hflags.anyBreach, State.breached_iff]
  · rw [hflags.ready, State.readyNow_iff, hladder]
    simp only [hcorner]

/-! ### A timer at its limit (R135, R137, R138) -/

theorem State.entrance_finishSlot (s : State) (slot : Slot) (a b : Entrance) :
    (s.finishSlot slot a b).entrance slot = some (b.reported (decide (50 < s.ownSpeed))) := by
  have hspeed : (s.moveEntrance slot a b).ownSpeed = s.ownSpeed := State.ownSpeed_congr (by simp)
  have hmoved : (s.moveEntrance slot a b).entrance slot = some b :=
    (State.entrance_congr (by rw [State.moveEntrance_interlock]) slot).trans (s.entrance_putEntrance slot b)
  rw [State.finishSlot, State.entrance_congr (s := (s.moveEntrance slot a b).entranceReport) (by simp),
    State.entrance_entranceReport, hmoved, hspeed]
  rfl

theorem State.finishSlot_faults (s : State) (slot : Slot) (a b : Entrance) : (s.finishSlot slot a b).faults =
    s.faults.afterChange (a.state == .fault) (b.state == .fault) .entranceFault (s.globalNumber slot) := by
  rw [← State.moveEntrance_faults, State.finishSlot]
  simp

theorem exec_lockTimeout_of_due {slot : Slot} {e : Entrance} (he : s.entrance slot = some e)
    (hd : e.lockTimeoutDue = true) :
    exec (.lockTimeout slot) s = .next (s.finishSlot slot e (e.timed 1000 .lockTimeout)) := by
  change execLockTimeout slot s = _
  simp [execLockTimeout, he, hd]

theorem exec_closeTimeout_of_due {slot : Slot} {e : Entrance} (he : s.entrance slot = some e)
    (hd : e.closeTimeoutDue = true) :
    exec (.closeTimeout slot) s = .next (s.finishSlot slot e (e.timed 8000 .closeTimeout)) := by
  change execCloseTimeout slot s = _
  simp [execCloseTimeout, he, hd]

theorem exec_reopeningDone_of_due {slot : Slot} {e : Entrance} (he : s.entrance slot = some e)
    (hd : e.reopeningDue = true) : exec (.reopeningDone slot) s = .next (s.finishSlot slot e e.inObstructed) := by
  change execReopeningDone slot s = _
  simp [execReopeningDone, he, hd]

/-- A timer that reaches its limit takes the entrance to FAULT. -/
theorem State.finishSlot_toFault (s : State) (slot : Slot) {e : Entrance} (hs : e.state ≠ .fault) (cause : EntranceCause) :
    ∃ e', (s.finishSlot slot e (e.toFault cause)).entrance slot = some e' ∧ e'.state = .fault ∧ e'.phase = .none ∧
      e'.timer = 0 ∧ e'.cause = cause ∧
      (s.finishSlot slot e (e.toFault cause)).faults = s.faults.raise .entranceFault (s.globalNumber slot) ∧
      s.finishSlot slot e (e.toFault cause) = { s with
        interlock := (s.finishSlot slot e (e.toFault cause)).interlock
        startUp := (s.finishSlot slot e (e.toFault cause)).startUp
        link := (s.finishSlot slot e (e.toFault cause)).link
        faults := (s.finishSlot slot e (e.toFault cause)).faults
        service := (s.finishSlot slot e (e.toFault cause)).service } := by
  refine ⟨_, s.entrance_finishSlot slot e _, rfl, rfl, rfl, rfl, ?_, by apply State.eq_of_blocks <;> simp⟩
  rw [State.finishSlot_faults, beq_false_of_ne hs]
  rfl

/-- The end of the reopening by the count of reversals (R138). -/
theorem Entrance.inObstructed_at_limit {e : Entrance} (hb : e.bit = false) (ht : 990 ≤ e.timer) : e.inObstructed =
    if e.reversals < 3 then e.toPhase .closing .driving else { e with timer := e.timer + 10 }.toOpened := by
  rw [Entrance.inObstructed, if_neg (by simp [hb]), if_neg (by omega)]
  rfl

/-- The end of the reopening is no fault. -/
theorem State.finishSlot_reopened (s : State) (slot : Slot) {e : Entrance} (hs : e.state = .obstructed)
    (hb : e.bit = false) (ht : 990 ≤ e.timer) : ∃ e', (s.finishSlot slot e e.inObstructed).entrance slot = some e' ∧
      (s.finishSlot slot e e.inObstructed).faults = s.faults ∧
      (e.reversals < 3 → e'.state = .closing ∧ e'.phase = .driving ∧ e'.timer = 0) ∧
      (3 ≤ e.reversals → e'.state = .opened ∧ e'.phase = .none) := by
  rw [Entrance.inObstructed_at_limit hb ht, State.entrance_finishSlot, State.finishSlot_faults, hs]
  refine ⟨_, rfl, ?_, fun hr => ?_, fun hr => ?_⟩
  · split <;> rfl
  · rw [if_pos hr]
    exact ⟨rfl, rfl, rfl⟩
  · rw [if_neg (by omega)]
    exact ⟨rfl, rfl⟩

/-- Settles O42: each command by its guard, and the slot's move with the rest of its period. -/
theorem entranceTimersExpire : Obligations.EntranceTimersExpire := by
  refine fun slot e s he => ⟨fun hs ht => ?_, fun hs hp ht => ?_, fun hs hb ht => ?_⟩
  · have hdue : e.lockTimeoutDue = true := by simpa [Entrance.lockTimeoutDue, hs] using ht
    have hexec := exec_lockTimeout_of_due he hdue
    rw [Entrance.timed_at_limit _ (by omega)] at hexec
    have hstate : e.state ≠ .fault := by rcases hs with ⟨hs, -⟩ | ⟨hs, -⟩ <;> simp [hs]
    obtain ⟨e', h⟩ := s.finishSlot_toFault slot hstate .lockTimeout
    exact ⟨_, e', hexec, h⟩
  · have hdue : e.closeTimeoutDue = true := by simpa [Entrance.closeTimeoutDue, hs, hp] using ht
    have hexec := exec_closeTimeout_of_due he hdue
    rw [Entrance.timed_at_limit _ (by omega)] at hexec
    obtain ⟨e', h⟩ := s.finishSlot_toFault slot (by simp [hs] : e.state ≠ .fault) .closeTimeout
    exact ⟨_, e', hexec, h⟩
  · have hdue : e.reopeningDue = true := by simpa [Entrance.reopeningDue, hs, hb] using ht
    obtain ⟨e', hslot, hfaults, hcloses, hopens⟩ := s.finishSlot_reopened slot hs hb ht
    refine ⟨_, e', exec_reopeningDone_of_due he hdue, hslot, hfaults, hcloses, hopens, ?_⟩
    apply State.eq_of_blocks
    case h13 => exact hfaults
    all_goals simp

end Sys2Proof.Machine
end

section
/-! PROOFS. The transmit queue as a list: its rule apart from what is in flight, and what joining, leaving and rewriting
its entries leave of the rule. -/

namespace Sys2Proof.Machine

variable {l l' : Link} {q q' : List Entry} {e : Entry} {k : Kind}

/-! ### Counting a kind -/

theorem countKind_append (k : Kind) (q q' : List Entry) : countKind k (q ++ q') = countKind k q + countKind k q' := by
  simp [countKind]

theorem countKind_cons (k : Kind) (e : Entry) (q : List Entry) :
    countKind k (e :: q) = countKind k q + if e.kind = k then 1 else 0 := by
  by_cases h : e.kind = k <;> simp [countKind, h]

theorem countKind_nil (k : Kind) : countKind k [] = 0 := rfl

theorem countKind_eq_zero_iff : countKind k q = 0 ↔ ∀ x ∈ q, x.kind ≠ k := by
  simp [countKind]

theorem countKind_le_of_sublist (h : q'.Sublist q) (k : Kind) : countKind k q' ≤ countKind k q :=
  (h.filter _).length_le

/-! ### The rule apart from what is in flight -/

/-- What R155 and R156 ask of the queue's kinds, classes and alerts, whatever is in flight. -/
structure KindsOk (q : List Entry) : Prop where
  depth : q.length ≤ 8
  oneState : countKind .state q ≤ 1
  oneDemand : countKind .demand q ≤ 1
  oneReply : countKind .serviceReply q ≤ 1
  fourTraces : countKind .trace q ≤ 4
  alertsDiffer : q.Pairwise Entry.distinctAlert
  classes : ∀ e ∈ q, e.cls = e.kind.cls ∨ (e.kind = .state ∧ e.cls = 1)

/-- At most one entry is in flight (R155). -/
def OneFlies (q : List Entry) : Prop := (q.filter fun e => e.inFlight).length ≤ 1

/-- `h` may be held aside for an entry of `q` in flight (R156). -/
structure Entry.StandsAside (h : Entry) (q : List Entry) : Prop where
  kind : h.kind = .state ∨ h.kind = .demand ∨ h.kind = .alert
  cls : h.cls = h.kind.cls
  flies : ∃ e ∈ q, e.inFlight = true ∧ h.twin e = true

theorem Link.QueueOk.kindsOk (h : l.QueueOk) : KindsOk l.queue :=
  ⟨h.depth, h.oneState, h.oneDemand, h.oneReply, h.fourTraces, h.alertsDiffer, h.classes⟩

theorem Link.QueueOk.oneFlies (h : l.QueueOk) : OneFlies l.queue := h.oneInFlight

theorem Link.QueueOk.standsAside {x : Entry} (h : l.QueueOk) (hx : l.held = some x) : x.StandsAside l.queue :=
  have ⟨hk, hc, he⟩ := h.heldMatches x hx
  ⟨hk, hc, he⟩

/-- The rule from its three parts. -/
theorem Link.QueueOk.of_parts (hk : KindsOk l.queue) (hf : OneFlies l.queue)
    (hh : ∀ x, l.held = some x → x.StandsAside l.queue) : l.QueueOk :=
  ⟨hk.depth, hf, hk.oneState, hk.oneDemand, hk.oneReply, hk.fourTraces, hk.alertsDiffer, hk.classes, fun x hx =>
    have ⟨hkind, hcls, hflies⟩ := hh x hx
    ⟨hkind, hcls, hflies⟩⟩

/-- The rule speaks of the queue and of the frame held aside alone. -/
theorem Link.QueueOk.congr (h : l.QueueOk) (hq : l'.queue = l.queue) (hh : l'.held = l.held) : l'.QueueOk :=
  .of_parts (hq ▸ h.kindsOk) (hq ▸ h.oneFlies) fun _ hx => hq ▸ h.standsAside (hh ▸ hx)

@[simp] theorem Link.updateShed_queueOk_iff (l : Link) : l.updateShed.QueueOk ↔ l.QueueOk :=
  ⟨fun h => h.congr (by simp) (by simp), fun h => h.congr (by simp) (by simp)⟩

theorem OneFlies.of_none (h : ∀ x ∈ q, x.inFlight = false) : OneFlies q := by
  have hnil : (q.filter fun e => e.inFlight) = [] := by simpa using h
  simp [OneFlies, hnil]

theorem OneFlies.eq_of_flies {x y : Entry} (h : OneFlies q) (hx : x ∈ q) (hy : y ∈ q) (hfx : x.inFlight = true)
    (hfy : y.inFlight = true) : x = y := by
  have hmem {z : Entry} (hz : z ∈ q) (hfz : z.inFlight = true) : z ∈ q.filter fun e => e.inFlight :=
    List.mem_filter.2 ⟨hz, hfz⟩
  obtain ⟨a, ha⟩ : ∃ a, (q.filter fun e => e.inFlight) = [a] :=
    List.length_eq_one_iff.1 (Nat.le_antisymm h (List.length_pos_of_mem (hmem hx hfx)))
  rw [ha] at hmem
  rw [List.mem_singleton.1 (hmem hx hfx), List.mem_singleton.1 (hmem hy hfy)]

theorem OneFlies.of_sublist (h : OneFlies q) (hs : q'.Sublist q) : OneFlies q' := (hs.filter _).length_le.trans h

theorem OneFlies.append_waiting (h : OneFlies q) (he : e.inFlight = false) : OneFlies (q ++ [e]) := by
  simpa [OneFlies, he] using h

theorem OneFlies.map {f : Entry → Entry} (h : OneFlies q) (hf : ∀ x, (f x).inFlight = x.inFlight) : OneFlies (q.map f) := by
  simpa [OneFlies, List.filter_map, Function.comp_def, hf] using h

/-! ### Leaving, rewriting and joining -/

theorem KindsOk.of_sublist (h : KindsOk q) (hs : q'.Sublist q) : KindsOk q' where
  depth := hs.length_le.trans h.depth
  oneState := (countKind_le_of_sublist hs _).trans h.oneState
  oneDemand := (countKind_le_of_sublist hs _).trans h.oneDemand
  oneReply := (countKind_le_of_sublist hs _).trans h.oneReply
  fourTraces := (countKind_le_of_sublist hs _).trans h.fourTraces
  alertsDiffer := h.alertsDiffer.sublist hs
  classes x hx := h.classes x (hs.subset hx)

theorem Entry.twin_iff (e x : Entry) :
    e.twin x = true ↔ x.kind = e.kind ∧ (e.kind = .alert → x.payload = e.payload) := by
  simp only [Entry.twin, Bool.and_eq_true, beq_iff_eq, Bool.or_eq_true, bne_iff_ne]
  tauto

/-- `x'` may stand where `x` stood: of the same kind, with the same payload when it is an ALERT, in the class of `x` or
promoted (R156, R158). -/
structure Entry.Replaces (x' x : Entry) : Prop where
  kind : x'.kind = x.kind
  alert : x.kind = .alert → x'.payload = x.payload
  cls : x'.cls = x.cls ∨ (x.kind = .state ∧ x'.cls = 1)

theorem Entry.Replaces.refl (x : Entry) : x.Replaces x := ⟨rfl, fun _ => rfl, .inl rfl⟩

theorem Entry.Replaces.twin {x' x h : Entry} (hr : x'.Replaces x) (ht : h.twin x = true) : h.twin x' = true := by
  rw [Entry.twin_iff] at ht ⊢
  obtain ⟨hkind, hpayload⟩ := ht
  exact ⟨hr.kind.trans hkind, fun ha => (hr.alert (hkind.trans ha)).trans (hpayload ha)⟩

theorem Entry.Replaces.distinctAlert {x x' y y' : Entry} (hx : x'.Replaces x) (hy : y'.Replaces y)
    (h : x.distinctAlert y) : x'.distinctAlert y' := fun hx' hy' => by
  have hxa : x.kind = .alert := hx.kind ▸ hx'
  have hya : y.kind = .alert := hy.kind ▸ hy'
  rw [hx.alert hxa, hy.alert hya]
  exact h hxa hya

theorem countKind_replaced (h : List.Forall₂ Entry.Replaces q' q) (k : Kind) : countKind k q' = countKind k q := by
  induction h with
  | nil => rfl
  | cons hr _ ih => simp only [countKind_cons, ih, hr.kind]

theorem exists_replaced {x' : Entry} (h : List.Forall₂ Entry.Replaces q' q) (hx : x' ∈ q') : ∃ x ∈ q, x'.Replaces x := by
  induction h with
  | nil => exact nomatch hx
  | cons hr _ ih =>
    rcases List.mem_cons.1 hx with rfl | hx
    · exact ⟨_, .head _, hr⟩
    · obtain ⟨x, hmem, hr⟩ := ih hx
      exact ⟨x, .tail _ hmem, hr⟩

theorem pairwise_replaced (h : List.Forall₂ Entry.Replaces q' q) (hd : q.Pairwise Entry.distinctAlert) :
    q'.Pairwise Entry.distinctAlert := by
  induction h with
  | nil => exact .nil
  | cons hr hrest ih =>
    obtain ⟨hhead, htail⟩ := List.pairwise_cons.1 hd
    refine .cons (fun y' hy' => ?_) (ih htail)
    obtain ⟨y, hy, hry⟩ := exists_replaced hrest hy'
    exact hr.distinctAlert hry (hhead y hy)

theorem KindsOk.of_replaced (h : KindsOk q) (hr : List.Forall₂ Entry.Replaces q' q) : KindsOk q' where
  depth := hr.length_eq ▸ h.depth
  oneState := countKind_replaced hr _ ▸ h.oneState
  oneDemand := countKind_replaced hr _ ▸ h.oneDemand
  oneReply := countKind_replaced hr _ ▸ h.oneReply
  fourTraces := countKind_replaced hr _ ▸ h.fourTraces
  alertsDiffer := pairwise_replaced hr h.alertsDiffer
  classes x' hx' := by
    obtain ⟨x, hx, hr⟩ := exists_replaced hr hx'
    rw [hr.kind]
    rcases hr.cls with hc | hc
    · rw [hc]
      exact h.classes x hx
    · exact .inr hc

theorem forall₂_replaces_map {f : Entry → Entry} (hf : ∀ x ∈ q, (f x).Replaces x) :
    List.Forall₂ Entry.Replaces (q.map f) q := by
  simpa [List.forall₂_map_left_iff, List.forall₂_same] using hf

/-- Entries rewritten in their places, in flight as before (R156, R158). -/
theorem Link.QueueOk.map {f : Entry → Entry} (h : l.QueueOk) (hf : ∀ x, (f x).Replaces x)
    (hi : ∀ x, (f x).inFlight = x.inFlight) (hq : l'.queue = l.queue.map f) (hh : l'.held = l.held) : l'.QueueOk := by
  refine .of_parts (hq ▸ h.kindsOk.of_replaced (forall₂_replaces_map fun x _ => hf x)) (hq ▸ h.oneFlies.map hi)
    fun x hx => ?_
  obtain ⟨hkind, hcls, y, hy, hfly, htwin⟩ := h.standsAside (hh ▸ hx)
  exact ⟨hkind, hcls, f y, hq ▸ List.mem_map_of_mem hy, (hi y).trans hfly, (hf y).twin htwin⟩

/-- Entries that wait leave the queue. -/
theorem Link.QueueOk.of_sublist (h : l.QueueOk) (hs : l'.queue.Sublist l.queue)
    (hfly : ∀ x ∈ l.queue, x.inFlight = true → x ∈ l'.queue) (hh : l'.held = l.held) : l'.QueueOk := by
  refine .of_parts (h.kindsOk.of_sublist hs) (h.oneFlies.of_sublist hs) fun x hx => ?_
  obtain ⟨hkind, hcls, y, hy, hf, htwin⟩ := h.standsAside (hh ▸ hx)
  exact ⟨hkind, hcls, y, hfly y hy hf, hf, htwin⟩

/-- Any entries leave the queue, and no frame is held aside. -/
theorem Link.QueueOk.of_sublist_of_none (h : l.QueueOk) (hs : l'.queue.Sublist l.queue) (hh : l'.held = none) : l'.QueueOk :=
  .of_parts (h.kindsOk.of_sublist hs) (h.oneFlies.of_sublist hs) fun x hx => by simp [hh] at hx

/-- A new entry `e` has its class, is not in flight, and stands for none of `q` nor brings its kind above its number
(R156). -/
structure Entry.Joins (e : Entry) (q : List Entry) : Prop where
  cls : e.cls = e.kind.cls
  waits : e.inFlight = false
  single : e.kind = .state ∨ e.kind = .demand ∨ e.kind = .alert → ∀ x ∈ q, e.twin x = false
  trace : e.kind = .trace → countKind .trace q < 4
  reply : e.kind = .serviceReply → countKind .serviceReply q = 0

theorem Entry.Joins.of_sublist (h : e.Joins q) (hs : q'.Sublist q) : e.Joins q' where
  cls := h.cls
  waits := h.waits
  single hk x hx := h.single hk x (hs.subset hx)
  trace hk := (countKind_le_of_sublist hs _).trans_lt (h.trace hk)
  reply hk := Nat.le_zero.1 ((countKind_le_of_sublist hs _).trans_eq (h.reply hk))

theorem countKind_append_le {n : Nat} (h : countKind k q ≤ n) (he : e.kind = k → countKind k q < n) :
    countKind k (q ++ [e]) ≤ n := by
  rw [countKind_append, countKind_cons, countKind_nil]
  split
  · next hk => have := he hk; omega
  · omega

theorem Entry.Joins.count_eq_zero (h : e.Joins q) (hk : e.kind = k) (hs : k = .state ∨ k = .demand) :
    countKind k q = 0 := by
  subst hk
  refine countKind_eq_zero_iff.2 fun x hx hkind => ?_
  have htwin := h.single (hs.imp_right .inl) x hx
  have : e.twin x = true := (e.twin_iff x).2 ⟨hkind, fun ha => by rcases hs with hs | hs <;> exact nomatch hs.symm.trans ha⟩
  simp [this] at htwin

theorem KindsOk.append (h : KindsOk q) (hroom : q.length < 8) (he : e.Joins q) : KindsOk (q ++ [e]) where
  depth := by simpa using hroom
  oneState := countKind_append_le h.oneState fun hk => by simp [he.count_eq_zero hk (.inl rfl)]
  oneDemand := countKind_append_le h.oneDemand fun hk => by simp [he.count_eq_zero hk (.inr rfl)]
  oneReply := countKind_append_le h.oneReply fun hk => by simp [he.reply hk]
  fourTraces := countKind_append_le h.fourTraces he.trace
  alertsDiffer := by
    refine List.pairwise_append.2 ⟨h.alertsDiffer, List.pairwise_singleton _ _, fun x hx y hy hxa hea hp => ?_⟩
    obtain rfl := List.mem_singleton.1 hy
    have htwin := he.single (.inr (.inr hea)) x hx
    rw [(y.twin_iff x).2 ⟨hxa.trans hea.symm, fun _ => hp⟩] at htwin
    exact nomatch htwin
  classes x hx := by
    rcases List.mem_append.1 hx with hx | hx
    · exact h.classes x hx
    · exact .inl (List.mem_singleton.1 hx ▸ he.cls)

/-- A frame joins at the tail. -/
theorem Link.QueueOk.append (h : l.QueueOk) (hroom : l.queue.length < 8) (he : e.Joins l.queue)
    (hq : l'.queue = l.queue ++ [e]) (hh : l'.held = l.held) : l'.QueueOk := by
  refine .of_parts (hq ▸ h.kindsOk.append hroom he) (hq ▸ h.oneFlies.append_waiting he.waits) fun x hx => ?_
  obtain ⟨hkind, hcls, y, hy, hf, htwin⟩ := h.standsAside (hh ▸ hx)
  exact ⟨hkind, hcls, y, hq ▸ List.mem_append_left _ hy, hf, htwin⟩

end Sys2Proof.Machine
end

section
/-! PROOFS. The transmit queue's operations: the entry that makes room on a full queue, a frame offered, and an attempt
that ends; each keeps the queue's rule. -/

namespace Sys2Proof.Machine

variable {l l' : Link} {q q' before after : List Entry} {e x : Entry} {c : Nat}

/-! ### The entry that makes room (R157) -/

theorem Entry.displaceable_iff (c : Nat) (x : Entry) : x.displaceable c = true ↔ x.inFlight = false ∧ x.cls = c := by
  simp [Entry.displaceable]

/-- The fold of `leastUrgent` from a class already seen. -/
theorem foldl_max_cls (q : List Entry) (a : Nat) :
    ∃ c, q.foldl (fun acc e => some (max (acc.getD 0) e.cls)) (some a) = some c ∧ (c = a ∨ ∃ x ∈ q, x.cls = c) ∧ a ≤ c ∧
      ∀ x ∈ q, x.cls ≤ c := by
  induction q generalizing a with
  | nil => exact ⟨a, rfl, .inl rfl, le_rfl, nofun⟩
  | cons y q ih =>
    obtain ⟨c, hc, hsome, hle, hall⟩ := ih (max a y.cls)
    refine ⟨c, hc, ?_, (le_max_left _ _).trans hle, fun x hx => ?_⟩
    · rcases hsome with rfl | ⟨x, hx, hxc⟩
      · rcases max_choice a y.cls with h | h
        · exact .inl h
        · exact .inr ⟨y, .head _, h.symm⟩
      · exact .inr ⟨x, .tail _ hx, hxc⟩
    · rcases List.mem_cons.1 hx with rfl | hx
      · exact (le_max_right _ _).trans hle
      · exact hall x hx

/-- The least urgent class is that of some waiting entry, and none waits in a less urgent one. -/
theorem leastUrgent_eq_some_iff : leastUrgent q = some c ↔
    (∃ x ∈ q, x.inFlight = false ∧ x.cls = c) ∧ ∀ x ∈ q, x.inFlight = false → x.cls ≤ c := by
  have hmem (x : Entry) : x ∈ q.filter (fun e => !e.inFlight) ↔ x ∈ q ∧ x.inFlight = false := by simp
  have hwaiting : ((∃ x ∈ q, x.inFlight = false ∧ x.cls = c) ∧ ∀ x ∈ q, x.inFlight = false → x.cls ≤ c) ↔
      (∃ x ∈ q.filter (fun e => !e.inFlight), x.cls = c) ∧ ∀ x ∈ q.filter (fun e => !e.inFlight), x.cls ≤ c := by
    simp only [hmem, and_assoc, and_imp]
  rw [hwaiting, leastUrgent]
  cases hq : q.filter (fun e => !e.inFlight) with
  | nil => simp
  | cons y rest =>
    obtain ⟨d, hd, hsome, hle, hall⟩ := foldl_max_cls rest y.cls
    have hfold : (y :: rest).foldl (fun acc e => some (max (acc.getD 0) e.cls)) none = some d := by
      simpa using hd
    rw [hfold, Option.some.injEq]
    have hd_mem : ∃ x ∈ y :: rest, x.cls = d := by
      rcases hsome with rfl | ⟨x, hx, hxd⟩
      · exact ⟨y, .head _, rfl⟩
      · exact ⟨x, .tail _ hx, hxd⟩
    have hd_max : ∀ x ∈ y :: rest, x.cls ≤ d := List.forall_mem_cons.2 ⟨hle, hall⟩
    constructor
    · rintro rfl
      exact ⟨hd_mem, hd_max⟩
    · rintro ⟨⟨x, hx, rfl⟩, hmax⟩
      obtain ⟨z, hz, rfl⟩ := hd_mem
      exact Nat.le_antisymm (hmax z hz) (hd_max x hx)

/-- The youngest entry that may be displaced, by its place. -/
theorem youngest_of_split (hx : x.displaceable c = true) (ha : ∀ y ∈ after, y.displaceable c = false) :
    youngest c (before ++ x :: after) = some x := by
  have hnone : after.reverse.find? (Entry.displaceable c) = none := by simpa using ha
  simp [youngest, List.find?_append, hnone, hx]

theorem removeYoungest_of_split (hx : x.displaceable c = true) (ha : ∀ y ∈ after, y.displaceable c = false) :
    removeYoungest c (before ++ x :: after) = before ++ after := by
  have hnone : ∀ y ∈ after.reverse, ¬y.displaceable c = true := by simpa using ha
  simp [removeYoungest, List.eraseP_append_right _ hnone, hx]

/-- The last entry with a property, by its place. -/
theorem exists_last_split {p : Entry → Bool} (h : ∃ x ∈ q, p x = true) :
    ∃ before x after, q = before ++ x :: after ∧ p x = true ∧ ∀ y ∈ after, p y = false := by
  obtain ⟨x, hfind⟩ := Option.isSome_iff_exists.1
    (List.find?_isSome.2 (by simpa using h) : (q.reverse.find? p).isSome)
  obtain ⟨hx, as, bs, hq, has⟩ := List.find?_eq_some_iff_append.1 hfind
  refine ⟨bs.reverse, x, as.reverse, ?_, hx, by simpa using has⟩
  rw [← List.reverse_reverse q, hq]
  simp

/-- On a full queue with something less urgent waiting, the entry that makes room stands somewhere. -/
theorem exists_displaced (hc : leastUrgent q = some c) : ∃ before x after, q = before ++ x :: after ∧
    x.inFlight = false ∧ x.cls = c ∧ youngest c q = some x ∧ removeYoungest c q = before ++ after := by
  obtain ⟨⟨y, hy, hwaits, hcls⟩, -⟩ := leastUrgent_eq_some_iff.1 hc
  obtain ⟨before, x, after, rfl, hx, ha⟩ := exists_last_split ⟨y, hy, (Entry.displaceable_iff c y).2 ⟨hwaits, hcls⟩⟩
  obtain ⟨hxw, hxc⟩ := (Entry.displaceable_iff c x).1 hx
  exact ⟨before, x, after, rfl, hxw, hxc, youngest_of_split hx ha, removeYoungest_of_split hx ha⟩

/-! ### A frame appended (R157) -/

theorem sublist_of_split (before : List Entry) (x : Entry) (after : List Entry) :
    (before ++ after).Sublist (before ++ x :: after) := (List.Sublist.refl before).append (List.sublist_cons_self x after)

theorem mem_of_split {y : Entry} (hy : y ∈ before ++ x :: after) (hne : y ≠ x) : y ∈ before ++ after := by
  simp only [List.mem_append, List.mem_cons] at hy ⊢
  tauto

/-- A waiting entry leaves from its place. -/
theorem Link.QueueOk.of_split (h : l.QueueOk) (hq : l.queue = before ++ x :: after) (hx : x.inFlight = false)
    (hq' : l'.queue = before ++ after) (hh : l'.held = l.held) : l'.QueueOk := by
  refine h.of_sublist (hq ▸ hq' ▸ sublist_of_split before x after) (fun y hy hf => ?_) hh
  rw [hq'] 
  exact mem_of_split (hq ▸ hy) fun he => by simp [he, hx] at hf

theorem Link.append_queueOk (h : l.QueueOk) (he : e.Joins l.queue) : (l.append e).1.QueueOk := by
  rcases l.append_cases e with ⟨hroom, heq⟩ | ⟨hfull, c, hc, -, heq⟩ | ⟨-, -, heq⟩ <;> rw [heq]
  · rw [Link.updateShed_queueOk_iff]
    exact h.append hroom he rfl rfl
  · obtain ⟨before, x, after, hq, hx, -, -, hrem⟩ := exists_displaced hc
    have hsub : (before ++ after).Sublist l.queue := hq ▸ sublist_of_split before x after
    have hroom : (before ++ after).length < 8 := by
      have hdepth := h.depth
      simp only [hq, List.length_append, List.length_cons] at hdepth ⊢
      omega
    have hleft : Link.QueueOk { l with queue := before ++ after } := h.of_split hq hx rfl rfl
    rw [Link.updateShed_queueOk_iff, hrem]
    exact hleft.append hroom (he.of_sublist hsub) rfl rfl
  · exact h.congr rfl rfl

/-- How many replies are in the queue after a frame has been appended: a reply displaced for it is reported. -/
theorem Link.append_replies (h : l.QueueOk) (e : Entry) :
    countKind .serviceReply (l.append e).1.queue ≤
      (if (l.append e).2.replyLeft then 0 else countKind .serviceReply l.queue) + countKind .serviceReply [e] := by
  rcases l.append_cases e with ⟨-, heq⟩ | ⟨-, c, hc, -, heq⟩ | ⟨-, -, heq⟩ <;> rw [heq]
  · simp [countKind_append]
  · obtain ⟨before, x, after, hq, -, -, hyoung, hrem⟩ := exists_displaced hc
    have hone := h.oneReply
    simp only [Link.updateShed_queue, hrem, hyoung, Option.any_some, beq_iff_eq, countKind_append]
    refine Nat.add_le_add_right ?_ _
    rw [hq] at hone ⊢
    simp only [countKind_append, countKind_cons] at hone ⊢
    by_cases hx : x.kind = .serviceReply
    · rw [if_pos hx] at hone ⊢
      omega
    · simp [hx]
  · simp

theorem Link.append_of_not_placed (h : (l.append e).2.placed = false) : (l.append e).1.queue = l.queue := by
  rcases l.append_cases e with ⟨-, heq⟩ | ⟨-, c, -, -, heq⟩ | ⟨-, -, heq⟩ <;> simp_all

/-! ### A frame offered (R156) -/

/-- What a frame offered leaves of an entry it stands for: the entry in its place, with the new payload. -/
def Entry.refresh (e x : Entry) : Entry := if e.twin x then { x with payload := e.payload } else x

theorem Entry.refresh_replaces (e x : Entry) : (e.refresh x).Replaces x := by
  unfold Entry.refresh
  split
  · next htwin =>
    obtain ⟨hkind, hpayload⟩ := (e.twin_iff x).1 htwin
    exact ⟨rfl, fun ha => (hpayload (hkind ▸ ha)).symm, .inl rfl⟩
  · exact .refl x

theorem Entry.refresh_inFlight (e x : Entry) : (e.refresh x).inFlight = x.inFlight := by
  unfold Entry.refresh
  split <;> rfl

/-- A frame whose kind is held once keeps the rule, whether held aside, put in its entry's place or joining. -/
theorem Link.offerSingle_queueOk (h : l.QueueOk) (hk : e.kind = .state ∨ e.kind = .demand ∨ e.kind = .alert)
    (hc : e.cls = e.kind.cls) (hf : e.inFlight = false) : (l.offerSingle e).1.QueueOk := by
  unfold Link.offerSingle
  split
  · next hany =>
    obtain ⟨x, hx, htwin, hfly⟩ : ∃ x ∈ l.queue, e.twin x = true ∧ x.inFlight = true := by simpa using hany
    refine .of_parts h.kindsOk h.oneFlies fun y hy => ?_
    obtain rfl : e = y := Option.some.inj hy
    exact ⟨hk, hc, x, hx, hfly, htwin⟩
  split
  · exact h.map e.refresh_replaces e.refresh_inFlight rfl rfl
  · next hnone =>
    have hnew : ∀ x ∈ l.queue, e.twin x = false := by simpa using hnone
    exact l.append_queueOk h ⟨hc, hf, fun _ => hnew, fun ht => by simp [ht] at hk, fun hr => by simp [hr] at hk⟩

/-- With four TRACE entries one waits, the oldest of which goes for a fifth. -/
theorem exists_spareTrace (h : OneFlies q) (h4 : 4 ≤ countKind .trace q) : ∃ x ∈ q, x.spareTrace = true := by
  by_contra hnone
  have hfly : ∀ x ∈ q, x.kind = .trace → x.inFlight = true := by simpa [Entry.spareTrace] using hnone
  have hall : ((q.filter fun e => e.kind == .trace).filter fun e => e.inFlight) = q.filter fun e => e.kind == .trace :=
    List.filter_eq_self.2 fun x hx => by
      obtain ⟨hq, hk⟩ := List.mem_filter.1 hx
      exact hfly x hq (by simpa using hk)
  have hone : OneFlies (q.filter fun e => e.kind == .trace) := h.of_sublist List.filter_sublist
  rw [OneFlies, hall] at hone
  exact absurd (h4.trans hone) (by decide)

theorem Entry.spareTrace_iff (x : Entry) : x.spareTrace = true ↔ x.kind = .trace ∧ x.inFlight = false := by
  simp [Entry.spareTrace]

/-- The oldest TRACE that waits leaves for a fifth. -/
def Link.traceOut (l : Link) : Link :=
  Link.updateShed { l with
    queue := l.queue.eraseP Entry.spareTrace
    traceDropped := bump l.traceDropped }

/-- A fifth TRACE: it joins once the oldest that waits has left. -/
theorem Link.offerTrace_of_four (h4 : countKind .trace l.queue = 4) (e : Entry) : l.offerTrace e = l.traceOut.append e :=
  if_neg (by simpa [countKind] using h4.ge)

theorem Link.offerTrace_of_fewer (h4 : countKind .trace l.queue < 4) (e : Entry) : l.offerTrace e = l.append e := if_pos h4

/-- What the oldest waiting TRACE leaves behind. -/
theorem Link.exists_traceOut (h : l.QueueOk) (h4 : countKind .trace l.queue = 4) : ∃ before x after,
    l.queue = before ++ x :: after ∧ x.kind = .trace ∧ x.inFlight = false ∧ l.traceOut.queue = before ++ after := by
  obtain ⟨y, hy, hspare⟩ := exists_spareTrace h.oneFlies h4.ge
  obtain ⟨x, before, after, -, hx, hq, herase⟩ := List.exists_of_eraseP hy hspare
  obtain ⟨hkind, hwaits⟩ := x.spareTrace_iff.1 hx
  exact ⟨before, x, after, hq, hkind, hwaits, by rw [Link.traceOut, Link.updateShed_queue]; exact herase⟩

theorem Link.traceOut_queueOk (h : l.QueueOk) (h4 : countKind .trace l.queue = 4) : l.traceOut.QueueOk := by
  obtain ⟨before, x, after, hq, -, hx, hout⟩ := Link.exists_traceOut h h4
  exact h.of_split hq hx hout (by simp [Link.traceOut])

theorem Link.traceOut_replies (h : l.QueueOk) (h4 : countKind .trace l.queue = 4) :
    countKind .serviceReply l.traceOut.queue = countKind .serviceReply l.queue := by
  obtain ⟨before, x, after, hq, hx, -, hout⟩ := Link.exists_traceOut h h4
  simp [hq, hout, countKind_append, countKind_cons, hx]

/-- A new frame as the blocks offer it: of a class of its kind, not in flight, and a reply only when none is queued. -/
structure Entry.Offered (e : Entry) (q : List Entry) : Prop where
  cls : e.cls = e.kind.cls
  waits : e.inFlight = false
  reply : e.kind = .serviceReply → countKind .serviceReply q = 0

theorem newEntry_offered {k : Kind} (hk : k ≠ .serviceReply) (dest : Nat) (payload : List Byte) :
    (newEntry k dest payload).Offered q := ⟨rfl, rfl, fun h => absurd h hk⟩

theorem Link.offerTrace_queueOk (h : l.QueueOk) (hk : e.kind = .trace) (he : e.Offered l.queue) :
    (l.offerTrace e).1.QueueOk := by
  have hjoins {q : List Entry} (h4 : countKind .trace q < 4) : e.Joins q :=
    ⟨he.cls, he.waits, fun hs => by simp [hk] at hs, fun _ => h4, fun hr => by simp [hk] at hr⟩
  rcases h.fourTraces.lt_or_eq with h4 | h4
  · rw [Link.offerTrace_of_fewer h4]
    exact l.append_queueOk h (hjoins h4)
  · rw [Link.offerTrace_of_four h4]
    refine Link.append_queueOk (Link.traceOut_queueOk h h4) (hjoins ?_)
    obtain ⟨before, x, after, hq, hx, -, hout⟩ := Link.exists_traceOut h h4
    simp only [hq, countKind_append, countKind_cons, hx, if_true] at h4
    rw [hout, countKind_append]
    omega

/-- The queue keeps its rule when a block offers a frame. -/
theorem Link.offer_queueOk (h : l.QueueOk) (he : e.Offered l.queue) : (l.offer e).1.QueueOk := by
  unfold Link.offer
  split
  · exact h
  cases hk : e.kind with
  | state | demand | alert => exact l.offerSingle_queueOk h (by simp [hk]) he.cls he.waits
  | trace => exact l.offerTrace_queueOk h hk he
  | serviceReq | serviceReply =>
    exact l.append_queueOk h ⟨he.cls, he.waits, fun hs => by simp [hk] at hs, fun ht => by simp [hk] at ht, he.reply⟩

/-- How many replies are in the queue after a frame of another kind has been offered: none once one is displaced. -/
theorem Link.offer_replies (h : l.QueueOk) (hk : e.kind ≠ .serviceReply) :
    countKind .serviceReply (l.offer e).1.queue ≤
      if (l.offer e).2.replyLeft then 0 else countKind .serviceReply l.queue := by
  have happend {l : Link} (h : l.QueueOk) : countKind .serviceReply (l.append e).1.queue ≤
      if (l.append e).2.replyLeft then 0 else countKind .serviceReply l.queue := by
    simpa [countKind_cons, countKind_nil, hk] using Link.append_replies h e
  have hsingle : countKind .serviceReply (l.offerSingle e).1.queue ≤
      if (l.offerSingle e).2.replyLeft then 0 else countKind .serviceReply l.queue := by
    unfold Link.offerSingle
    split
    · exact le_rfl
    split
    · exact (countKind_replaced (forall₂_replaces_map fun x _ => e.refresh_replaces x) _).le
    · exact happend h
  unfold Link.offer
  split
  · exact le_rfl
  cases hkind : e.kind with
  | state | demand | alert => exact hsingle
  | trace =>
    rcases h.fourTraces.lt_or_eq with h4 | h4
    · simpa only [Link.offerTrace_of_fewer h4] using happend h
    · simp only [Link.offerTrace_of_four h4, ← Link.traceOut_replies h h4]
      exact happend (Link.traceOut_queueOk h h4)
  | serviceReq | serviceReply => exact happend h

end Sys2Proof.Machine
end

section
/-! PROOFS. Attempts to send: the entry that goes in flight, the ends of an attempt, and listen-only; each keeps the
queue's rule. -/

namespace Sys2Proof.Machine

variable {l l' : Link} {q before after : List Entry} {e x y : Entry}

/-! ### The entry a frame stands for (R156) -/

theorem Entry.distinctAlert.symm (h : x.distinctAlert y) : y.distinctAlert x := fun hy hx hp => h hx hy hp.symm

/-- A frame of a kind held once stands for one entry of the queue at most. -/
theorem KindsOk.twin_unique (h : KindsOk (before ++ x :: after))
    (hk : e.kind = .state ∨ e.kind = .demand ∨ e.kind = .alert) (hx : e.twin x = true) :
    ∀ y ∈ before ++ after, e.twin y = false := by
  intro y hy
  obtain ⟨hxk, hxp⟩ := (e.twin_iff x).1 hx
  rw [← Bool.not_eq_true, e.twin_iff]
  rintro ⟨hyk, hyp⟩
  have hcount {k : Kind} (hek : e.kind = k) (hone : countKind k (before ++ x :: after) ≤ 1) : False := by
    have hzero : countKind k (before ++ after) = 0 := by
      simp only [countKind_append, countKind_cons, hxk, hek, if_true] at hone ⊢
      omega
    exact countKind_eq_zero_iff.1 hzero y hy (hyk.trans hek)
  rcases hk with hk | hk | hk
  · exact hcount hk h.oneState
  · exact hcount hk h.oneDemand
  · have hmiddle := (List.pairwise_middle fun ha => ha.symm).1 h.alertsDiffer
    exact List.rel_of_pairwise_cons hmiddle hy (hxk.trans hk) (hyk.trans hk) ((hxp hk).trans (hyp hk).symm)

/-! ### The end of an attempt (R153 to R156) -/

/-- The entry in flight has left, and nothing has joined in its place. -/
def Link.attemptOver (l : Link) : Link :=
  Link.updateShed { l with
    queue := l.queue.filter fun e => !e.inFlight
    held := none
    wire := [] }

theorem Link.attemptEnds_of_none (h : l.held = none) : l.attemptEnds = l.attemptOver := by
  simp only [Link.attemptEnds, h]
  rfl

theorem Link.attemptEnds_of_held (h : l.held = some e) :
    l.attemptEnds = (l.attemptOver.append { e with time := 0, inFlight := false }).1 := by
  simp only [Link.attemptEnds, h]
  rfl

@[simp] theorem Link.attemptOver_queue (l : Link) : l.attemptOver.queue = l.queue.filter fun e => !e.inFlight :=
  Link.updateShed_queue _

theorem Link.attemptOver_queueOk (h : l.QueueOk) : l.attemptOver.QueueOk :=
  h.of_sublist_of_none (l.attemptOver_queue ▸ List.filter_sublist) (Link.updateShed_held _)

/-- A frame held aside may join once the entry it stands for has left. -/
theorem Link.QueueOk.held_joins (h : l.QueueOk) (hh : l.held = some e) :
    Entry.Joins { e with time := 0, inFlight := false } (l.queue.filter fun x => !x.inFlight) := by
  obtain ⟨hk, hc, y, hy, hfly, htwin⟩ := h.standsAside hh
  obtain ⟨before, after, hq⟩ := List.append_of_mem hy
  refine ⟨hc, rfl, fun _ x hx => ?_, fun ht => ?_, fun hr => ?_⟩
  · obtain ⟨hxq, hwaits⟩ : x ∈ l.queue ∧ x.inFlight = false := by simpa using hx
    have hne : x ≠ y := fun he => by simp [he, hfly] at hwaits
    exact KindsOk.twin_unique (hq ▸ h.kindsOk) hk htwin x (mem_of_split (hq ▸ hxq) hne)
  · rcases hk with hk | hk | hk <;> exact nomatch hk.symm.trans ht
  · rcases hk with hk | hk | hk <;> exact nomatch hk.symm.trans hr

theorem Link.attemptEnds_queueOk (h : l.QueueOk) : l.attemptEnds.QueueOk := by
  cases hh : l.held with
  | none => exact Link.attemptEnds_of_none hh ▸ Link.attemptOver_queueOk h
  | some e =>
    rw [Link.attemptEnds_of_held hh]
    exact Link.append_queueOk (Link.attemptOver_queueOk h) (l.attemptOver_queue ▸ h.held_joins hh)

/-- An entry after an attempt lost in arbitration: it waits in its place, with the payload held aside for it (R156). -/
def Link.backInPlace (l : Link) (x : Entry) : Entry :=
  if x.inFlight then { x with inFlight := false, payload := (l.held.map fun h => h.payload).getD x.payload } else x

theorem Link.attemptLost_of_live (h : l.listenOnly = false) : l.attemptLost = { l with
    queue := l.queue.map l.backInPlace
    held := none
    wire := [] } := by
  simp only [Link.attemptLost, h, Bool.false_eq_true, if_false]
  congr 2
  funext x
  unfold Link.backInPlace
  cases l.held <;> rfl

theorem Link.attemptLost_of_listenOnly (h : l.listenOnly = true) : l.attemptLost = l.attemptEnds := if_pos h

/-- A frame held aside is of the kind of the entry in flight, and of its payload when it is an ALERT. -/
theorem Link.QueueOk.held_twin (h : l.QueueOk) (hh : l.held = some e) (hx : x ∈ l.queue) (hf : x.inFlight = true) :
    e.twin x = true := by
  obtain ⟨-, -, y, hy, hfly, htwin⟩ := h.standsAside hh
  exact h.oneFlies.eq_of_flies hy hx hfly hf ▸ htwin

theorem Link.backInPlace_replaces (h : l.QueueOk) (hx : x ∈ l.queue) : (l.backInPlace x).Replaces x := by
  unfold Link.backInPlace
  split
  · next hfly =>
    refine ⟨rfl, fun ha => ?_, .inl rfl⟩
    cases hh : l.held with
    | none => rfl
    | some e =>
      obtain ⟨hkind, hpayload⟩ := (e.twin_iff x).1 (h.held_twin hh hx hfly)
      exact (hpayload (hkind ▸ ha)).symm
  · exact .refl x

theorem Link.attemptLost_queueOk (h : l.QueueOk) : l.attemptLost.QueueOk := by
  cases hl : l.listenOnly with
  | true => exact Link.attemptLost_of_listenOnly hl ▸ Link.attemptEnds_queueOk h
  | false =>
    rw [Link.attemptLost_of_live hl]
    refine .of_parts (h.kindsOk.of_replaced (forall₂_replaces_map fun x hx => Link.backInPlace_replaces h hx))
      (OneFlies.of_none fun x hx => ?_) nofun
    obtain ⟨y, -, rfl⟩ := List.mem_map.1 hx
    unfold Link.backInPlace
    split
    · rfl
    · next hw => simpa using hw

/-! ### Replies and the end of an attempt (R174) -/

/-- A frame held aside is no reply, so an attempt's end adds none. -/
theorem Link.attemptEnds_replies (h : l.QueueOk) : countKind .serviceReply l.attemptEnds.queue ≤
    countKind .serviceReply (l.queue.filter fun e => !e.inFlight) := by
  cases hh : l.held with
  | none => rw [Link.attemptEnds_of_none hh, l.attemptOver_queue]
  | some e =>
    have hk : e.kind ≠ .serviceReply := fun hr => by
      have hkind := (h.standsAside hh).kind
      simp [hr] at hkind
    have happend := Link.append_replies (Link.attemptOver_queueOk h) { e with time := 0, inFlight := false }
    rw [l.attemptOver_queue, countKind_cons, countKind_nil, if_neg hk] at happend
    rw [Link.attemptEnds_of_held hh]
    refine happend.trans ?_
    split <;> simp

/-- Entries kept without the one reply hold none. -/
theorem KindsOk.no_other_reply {p : Entry → Bool} (h : KindsOk q) (hx : x ∈ q) (hk : x.kind = .serviceReply)
    (hp : p x = false) : countKind .serviceReply (q.filter p) = 0 := by
  obtain ⟨before, after, rfl⟩ := List.append_of_mem hx
  have hone := h.oneReply
  simp only [countKind_append, countKind_cons, hk, if_true] at hone
  have hsub : ((before ++ x :: after).filter p).Sublist (before ++ after) := by
    simp only [List.filter_append, List.filter_cons, hp]
    exact List.filter_sublist.append List.filter_sublist
  have hle := countKind_le_of_sublist hsub .serviceReply
  rw [countKind_append] at hle
  omega

/-! ### Listen-only (R160) -/

theorem Link.silence_queueOk (h : l.QueueOk) : l.silence.QueueOk := by
  rw [Link.silence, Link.updateShed_queueOk_iff]
  exact h.of_sublist_of_none List.filter_sublist rfl

/-! ### The start of an attempt (R155) -/

theorem markInFlight_replaces (e : Entry) (q : List Entry) : List.Forall₂ Entry.Replaces (markInFlight e q) q := by
  induction q with
  | nil => exact .nil
  | cons x q ih =>
    unfold markInFlight
    split
    · exact .cons ⟨rfl, fun _ => rfl, .inl rfl⟩ (List.forall₂_same.2 fun y _ => .refl y)
    · exact .cons (.refl x) ih

/-- With nothing in flight, one entry marked is the only one. -/
theorem OneFlies.markInFlight (h : ∀ x ∈ q, x.inFlight = false) (e : Entry) : OneFlies (markInFlight e q) := by
  induction q with
  | nil => exact .of_none nofun
  | cons x q ih =>
    obtain ⟨hx, hq⟩ := List.forall_mem_cons.1 h
    have hnil : (q.filter fun e => e.inFlight) = [] := by simpa using hq
    unfold Machine.markInFlight
    split
    · simp [OneFlies, hnil]
    · simpa [OneFlies, hx] using ih hq

theorem Link.sending_eq_false_iff (l : Link) : l.sending = false ↔ ∀ x ∈ l.queue, x.inFlight = false := by
  simp [Link.sending]

/-- While nothing is in flight nothing is held aside. -/
theorem Link.QueueOk.held_of_not_sending (h : l.QueueOk) (hs : l.sending = false) : l.held = none := by
  cases hh : l.held with
  | none => rfl
  | some e =>
    obtain ⟨-, -, x, hx, hfly, -⟩ := h.standsAside hh
    simp [(l.sending_eq_false_iff.1 hs) x hx] at hfly

theorem Link.startSending_queueOk (h : l.QueueOk) (hs : l.sending = false) (own : Fin 8) (e : Entry) :
    (l.startSending own e).QueueOk :=
  .of_parts (h.kindsOk.of_replaced (markInFlight_replaces e l.queue)) (.markInFlight (l.sending_eq_false_iff.1 hs) e)
    fun x hx => by
      have hnone : (l.startSending own e).held = none := h.held_of_not_sending hs
      simp [hnone] at hx

theorem Link.startSending_replies (l : Link) (own : Fin 8) (e : Entry) :
    countKind .serviceReply (l.startSending own e).queue = countKind .serviceReply l.queue :=
  countKind_replaced (markInFlight_replaces e l.queue) _

end Sys2Proof.Machine
end

section
/-! PROOFS. Every step keeps the transmit queue's rule and the reply slot in agreement with it: the link and the service
block through each operation that offers a frame, ends an attempt or answers a request. -/

namespace Sys2Proof.Machine

variable {s t : State}

/-! ### The link and the service block in agreement (R156, R174) -/

/-- The queue is sound, and a reply in it is the one the slot speaks of: `State.LinkOk` on the two blocks it reads. -/
structure Link.AgreesWith (l : Link) (v : Service) : Prop where
  queue : l.QueueOk
  slot : 0 < countKind .serviceReply l.queue → v.slot = .queued

theorem State.linkOk_iff (s : State) : s.LinkOk ↔ s.link.AgreesWith s.service :=
  ⟨fun ⟨hq, hs⟩ => ⟨hq, hs⟩, fun ⟨hq, hs⟩ => ⟨hq, hs⟩⟩

variable {l l' : Link} {v v' : Service}

/-- No more replies than before, and the slot as it was. -/
theorem Link.AgreesWith.of_replies (h : l.AgreesWith v) (hq : l'.QueueOk)
    (hr : countKind .serviceReply l'.queue ≤ countKind .serviceReply l.queue) (hv : v'.slot = v.slot) :
    l'.AgreesWith v' := ⟨hq, fun hpos => hv.trans (h.slot (hpos.trans_le hr))⟩

/-- No reply in the queue: the slot may be anything. -/
theorem Link.QueueOk.agreesWith_of_none (h : l.QueueOk) (hr : countKind .serviceReply l.queue = 0) (v : Service) :
    l.AgreesWith v := ⟨h, fun hpos => absurd hr hpos.ne'⟩

theorem Link.AgreesWith.congr (h : l.AgreesWith v) (hq : l'.queue = l.queue) (hh : l'.held = l.held)
    (hv : v'.slot = v.slot) : l'.AgreesWith v' := h.of_replies (h.queue.congr hq hh) (by rw [hq]) hv

/-- A slot that is not QUEUED speaks of no reply. -/
theorem Link.AgreesWith.no_reply (h : l.AgreesWith v) (hv : v.slot ≠ .queued) : countKind .serviceReply l.queue = 0 :=
  Nat.eq_zero_of_not_pos fun hpos => hv (h.slot hpos)

theorem State.ackMissed_eq (s : State) : s.ackMissed = { s with
    link := { s.link with
      unacked := bump s.link.unacked
      ackMiss := growTo 16 1 s.link.ackMiss }
    faults := if s.link.ackMiss = 15 then s.faults.raise .linkAlone 0 else s.faults } := by
  simp only [State.ackMissed, beq_iff_eq]
  split <;> rfl

/-! ### Replies and frames offered -/

/-- A reply offered to a queue that holds none. -/
theorem State.offerReply_agrees (hq : s.link.QueueOk) (hr : countKind .serviceReply s.link.queue = 0) (r : Reply) :
    (s.offerReply r).link.AgreesWith (s.offerReply r).service := by
  have hqueue := Link.offer_queueOk hq (e := newEntry .serviceReply r.dest r.payload) ⟨rfl, rfl, fun _ => hr⟩
  refine ⟨hqueue, fun hpos => ?_⟩
  by_cases hplaced : (s.link.offer (newEntry .serviceReply r.dest r.payload)).2.placed = true
  · simp [State.offerReply, hplaced]
  · have hsame : (s.link.offer (newEntry .serviceReply r.dest r.payload)).1.queue = s.link.queue := by
      cases hl : s.link.listenOnly with
      | true => rw [Link.offer_of_listenOnly hl]
      | false =>
        rw [Link.offer_reply hl] at hplaced ⊢
        exact Link.append_of_not_placed (by simpa using hplaced)
    exact absurd (hsame ▸ hr) hpos.ne'

/-- Once a reply has left, none is in the queue, and one held back may be offered (R157, R174). -/
theorem State.replyLeft_agrees (hq : s.link.QueueOk) (hr : countKind .serviceReply s.link.queue = 0) :
    s.replyLeft.link.AgreesWith s.replyLeft.service := by
  unfold State.replyLeft
  split
  · exact hq.agreesWith_of_none hr _
  · exact State.offerReply_agrees (by exact hq) (by exact hr) _

theorem State.tellReply_agrees {left : Bool} (hq : s.link.QueueOk)
    (hr : left = true → countKind .serviceReply s.link.queue = 0) (hs : left = false → s.link.AgreesWith s.service) :
    (s.tellReply left).link.AgreesWith (s.tellReply left).service := by
  cases left with
  | true => exact State.replyLeft_agrees hq (hr rfl)
  | false => exact hs rfl

section
variable (h : s.link.AgreesWith s.service)
include h

theorem State.offer_agrees {k : Kind} (hk : k ≠ .serviceReply) (dest : Nat) (payload : List Byte) :
    (s.offer (newEntry k dest payload)).link.AgreesWith (s.offer (newEntry k dest payload)).service := by
  have hqueue := Link.offer_queueOk h.queue (newEntry_offered hk dest payload)
  have hreplies := Link.offer_replies h.queue (e := newEntry k dest payload) hk
  simp only [State.offer]
  split
  · next hleft =>
    rw [if_pos hleft] at hreplies
    exact State.replyLeft_agrees hqueue (Nat.le_zero.1 hreplies)
  · next hleft =>
    rw [if_neg hleft] at hreplies
    exact h.of_replies hqueue hreplies rfl

@[simp] theorem State.offerAlert_agrees (code : AlertCode) (q : Nat) :
    (s.offerAlert code q).link.AgreesWith (s.offerAlert code q).service := State.offer_agrees h (by decide) _ _

@[simp] theorem State.offerState_agrees : s.offerState.link.AgreesWith s.offerState.service :=
  State.offer_agrees h (by decide) _ _

@[simp] theorem State.silence_agrees : s.silence.link.AgreesWith s.silence.service := by
  have hsub : s.link.silence.queue.Sublist s.link.queue := by
    rw [Link.silence, Link.updateShed_queue]
    exact List.filter_sublist
  have hqueue := Link.silence_queueOk h.queue
  unfold State.silence
  split
  · next hwaits =>
    refine State.replyLeft_agrees hqueue ?_
    obtain ⟨x, hx, hk, hw⟩ : ∃ x ∈ s.link.queue, x.kind = .serviceReply ∧ x.inFlight = false := by
      simpa [Link.replyWaits] using (Bool.and_eq_true_iff.1 hwaits).1
    rw [Link.silence, Link.updateShed_queue]
    exact h.queue.kindsOk.no_other_reply hx hk hw
  · exact h.of_replies hqueue (countKind_le_of_sublist hsub _) rfl

/-! ### The joint monitor's alerts -/

@[simp] theorem State.setJackknife_agrees : s.setJackknife.link.AgreesWith s.setJackknife.service :=
  State.offerAlert_agrees (by exact h) _ _

@[simp] theorem State.compareJoint_agrees (m : Nat) :
    (s.compareJoint m).link.AgreesWith (s.compareJoint m).service := by
  simp only [State.compareJoint, State.countMismatch]
  (repeat' split) <;> simp [h]

@[simp] theorem State.jointArrival_agrees : s.jointArrival.link.AgreesWith s.jointArrival.service := by
  simp only [State.jointArrival]
  (repeat' split) <;> simp [h]

@[simp] theorem State.testLimit_agrees (phi : Int) : (s.testLimit phi).link.AgreesWith (s.testLimit phi).service := by
  unfold State.testLimit
  (repeat' split) <;> simp [h]

@[simp] theorem State.takeJointReading_agrees (v : Microvolt) :
    (s.takeJointReading v).link.AgreesWith (s.takeJointReading v).service := by
  simp only [State.takeJointReading]
  (repeat' split) <;> simp [h]

/-! ### The steering block's alerts -/

@[simp] theorem State.enterPinned_agrees (cause : PinCause) :
    (s.enterPinned cause).link.AgreesWith (s.enterPinned cause).service := State.offerAlert_agrees (by exact h) _ _

@[simp] theorem State.steerStage1_agrees (v : Microvolt) :
    (s.steerStage1 v).link.AgreesWith (s.steerStage1 v).service := by
  simp only [State.steerStage1]
  have hcoil : (if s.coilFailed 9 && s.steering.state != .pinned then s.enterPinned .coil else s).link.AgreesWith
      (if s.coilFailed 9 && s.steering.state != .pinned then s.enterPinned .coil else s).service := by
    split <;> simp [h]
  generalize (if s.coilFailed 9 && s.steering.state != .pinned then s.enterPinned .coil else s) = u at hcoil ⊢
  split
  · exact hcoil
  split
  · exact State.enterPinned_agrees (by exact hcoil) _
  · exact hcoil

@[simp] theorem State.countTracking_agrees : s.countTracking.link.AgreesWith s.countTracking.service := by
  unfold State.countTracking
  (repeat' split)
  · exact h
  · exact State.enterPinned_agrees (s := s.raise _ _) h _
  · exact h

@[simp] theorem State.steerStage5_agrees : s.steerStage5.link.AgreesWith s.steerStage5.service := by
  unfold State.steerStage5
  (repeat' split) <;> simp [h]

@[simp] theorem State.steeringPeriod_agrees (v : Microvolt) :
    (s.steeringPeriod v).link.AgreesWith (s.steeringPeriod v).service := by
  unfold State.steeringPeriod
  split
  · exact State.steerStage5_agrees (s := State.steerStage4 _) (by simp [h])
  · exact h

/-! ### The path tracker's TRACE -/

@[simp] theorem State.completeStep_agrees (v : Microvolt) :
    (s.completeStep v).link.AgreesWith (s.completeStep v).service := by
  unfold State.completeStep
  split
  · exact State.offer_agrees (by exact h) (by decide) _ _
  · exact h

@[simp] theorem State.tracePulse_agrees (v : Microvolt) : (s.tracePulse v).link.AgreesWith (s.tracePulse v).service := by
  unfold State.tracePulse
  (repeat' split) <;> simp [h]

@[simp] theorem State.pathGrows_agrees (q : List Sample) : (s.pathGrows q).link.AgreesWith (s.pathGrows q).service := by
  simp only [State.pathGrows]
  split <;> simp [h]

@[simp] theorem State.olderArrival_agrees (i : Half) (k : Int) :
    (s.olderArrival i k).link.AgreesWith (s.olderArrival i k).service := by
  unfold State.olderArrival
  split <;> simp [h]

@[simp] theorem State.takeTrace_agrees (p : List Byte) : (s.takeTrace p).link.AgreesWith (s.takeTrace p).service := by
  simp only [State.takeTrace, State.traceArrival]
  (repeat' split) <;> simp [h]

/-! ### Slip control, entrances -/

@[simp] theorem State.countLock_agrees (side : Side) : (s.countLock side).link.AgreesWith (s.countLock side).service := by
  simp only [State.countLock]
  (repeat' split)
  · exact State.offerAlert_agrees (s := s.putWheel _ _) h _ _
  · exact h
  · exact h

@[simp] theorem State.slipPeriod_agrees : s.slipPeriod.link.AgreesWith s.slipPeriod.service := by
  unfold State.slipPeriod
  split
  · have hwheels : ((s.closeWindows.measureSlip.actWheel .left).actWheel .right).link.AgreesWith
        ((s.closeWindows.measureSlip.actWheel .left).actWheel .right).service := by simp [h]
    exact State.countLock_agrees (State.countLock_agrees hwheels _) _
  · exact h

@[simp] theorem State.breachAlert_agrees (slot : Slot) :
    (s.breachAlert slot).link.AgreesWith (s.breachAlert slot).service := by
  unfold State.breachAlert
  (repeat' split)
  · exact h
  · exact State.offerAlert_agrees (s := s.putEntrance _ _) h _ _
  · exact h
  · exact h

@[simp] theorem State.entranceReport_agrees : s.entranceReport.link.AgreesWith s.entranceReport.service :=
  State.breachAlert_agrees (State.breachAlert_agrees (s := s.flagged) h _) _

/-! ### The coil sweep's reply -/

@[simp] theorem State.giveSweepReply_agrees : s.giveSweepReply.link.AgreesWith s.giveSweepReply.service := by
  unfold State.giveSweepReply
  split
  · exact h
  · simp only
    split
    · exact h.congr rfl rfl rfl
    · next hslot => exact State.offerReply_agrees (by exact h.queue) (by exact h.no_reply (by simpa using hslot)) _

@[simp] theorem State.endSweep_agrees (how : SweepState) : (s.endSweep how).link.AgreesWith (s.endSweep how).service :=
  State.giveSweepReply_agrees (by exact h)

@[simp] theorem State.checkSweep_agrees : s.checkSweep.link.AgreesWith s.checkSweep.service := by
  unfold State.checkSweep
  split <;> simp [h]

@[simp] theorem State.sweepFrom_agrees (i : Nat) : (s.sweepFrom i).link.AgreesWith (s.sweepFrom i).service := by
  unfold State.sweepFrom
  split <;> simp [h]

@[simp] theorem State.startSweep_agrees : s.startSweep.link.AgreesWith s.startSweep.service :=
  State.sweepFrom_agrees (by exact h) 0

@[simp] theorem State.sweepOrSkip_agrees : s.sweepOrSkip.link.AgreesWith s.sweepOrSkip.service := by
  unfold State.sweepOrSkip
  split <;> simp [h]

@[simp] theorem State.sweepStep_agrees (f : Bool) : (s.sweepStep f).link.AgreesWith (s.sweepStep f).service := by
  simp only [State.sweepStep]
  split <;> simp [h]

@[simp] theorem State.ladderPeriod_agrees : s.ladderPeriod.link.AgreesWith s.ladderPeriod.service := by
  simp [State.ladderPeriod, h]

@[simp] theorem State.acceptDemand_agrees (v : DemandValues) :
    (s.acceptDemand v).link.AgreesWith (s.acceptDemand v).service := by
  simp [State.acceptDemand, h]

/-! ### The DEMAND computation, the configuration -/

@[simp] theorem State.runDemand_agrees (w : Switches) : (s.runDemand w).link.AgreesWith (s.runDemand w).service :=
  State.acceptDemand_agrees (State.offer_agrees (s := s.setLines w) h (by decide) _ _) _

@[simp] theorem State.configure_agrees (image : List Byte) :
    (s.configure image).link.AgreesWith (s.configure image).service := by
  have hheld : ((s.readStraps.holdImage image).blocksStart).link.AgreesWith
      ((s.readStraps.holdImage image).blocksStart).service := by simp [h]
  exact State.offerState_agrees (hheld.congr rfl rfl rfl)

/-! ### Ends of an attempt -/

/-- The one in flight has left: where it was a reply, no other is in the queue. -/
theorem State.attemptEnds_replies (hr : s.replyInFlight = true) : countKind .serviceReply s.link.attemptEnds.queue = 0 := by
  obtain ⟨x, hfind, hk⟩ : ∃ x, s.link.queue.find? (fun e => e.inFlight) = some x ∧ x.kind = .serviceReply := by
    simpa [State.replyInFlight, Link.sendingKind] using hr
  have hgone := h.queue.kindsOk.no_other_reply (p := fun e => !e.inFlight) (List.mem_of_find?_eq_some hfind) hk
    (by simpa using List.find?_some hfind)
  exact Nat.le_zero.1 (hgone ▸ Link.attemptEnds_replies h.queue)

/-- An attempt that ends, with what else it writes, and the slot told of a reply that has left (R153, R154, R157). -/
theorem State.tellReply_attemptEnds_agrees (hq : t.link.queue = s.link.attemptEnds.queue)
    (hh : t.link.held = s.link.attemptEnds.held) (hv : t.service = s.service) :
    (t.tellReply s.replyInFlight).link.AgreesWith (t.tellReply s.replyInFlight).service := by
  have hqueue : t.link.QueueOk := (Link.attemptEnds_queueOk h.queue).congr hq hh
  refine State.tellReply_agrees hqueue (fun hr => hq ▸ State.attemptEnds_replies h hr) fun _ => ?_
  refine h.of_replies hqueue (hq ▸ (Link.attemptEnds_replies h.queue).trans ?_) (by rw [hv])
  exact countKind_le_of_sublist List.filter_sublist _

@[simp] theorem State.sendBitError_agrees : s.sendBitError.link.AgreesWith s.sendBitError.service :=
  State.tellReply_attemptEnds_agrees h rfl rfl rfl

@[simp] theorem State.frameSent_agrees (acked : Bool) : (s.frameSent acked).link.AgreesWith (s.frameSent acked).service := by
  cases acked with
  | true => exact State.tellReply_attemptEnds_agrees h rfl rfl rfl
  | false =>
    simp only [State.frameSent, Bool.false_eq_true, if_false, State.ackMissed_eq]
    exact State.tellReply_attemptEnds_agrees h rfl rfl rfl

@[simp] theorem State.arbitrationLost_agrees : s.arbitrationLost.link.AgreesWith s.arbitrationLost.service := by
  unfold State.arbitrationLost
  cases hl : s.link.listenOnly with
  | true =>
    rw [Link.attemptLost_of_listenOnly hl, Bool.true_and]
    exact State.tellReply_attemptEnds_agrees h rfl rfl rfl
  | false =>
    have hreplies : countKind .serviceReply s.link.attemptLost.queue = countKind .serviceReply s.link.queue := by
      rw [Link.attemptLost_of_live hl]
      exact countKind_replaced (forall₂_replaces_map fun x hx => Link.backInPlace_replaces h.queue hx) _
    rw [Bool.false_and]
    exact h.of_replies (Link.attemptLost_queueOk h.queue) hreplies.le rfl

/-! ### Requests, answered once the slot is not QUEUED -/

section
variable (hs : s.service.slot ≠ .queued)
include hs

theorem State.answer_agrees (ht : t.link = s.link) (n : Fin 8) (code : Nat) (r : Result) (data : List Byte) :
    (t.answer n code r data).link.AgreesWith (t.answer n code r data).service :=
  State.offerReply_agrees (ht ▸ h.queue) (ht ▸ h.no_reply hs) _

theorem State.carry_agrees (n : Fin 8) (r : Request) (args : List Byte) :
    (s.carry n r args).link.AgreesWith (s.carry n r args).service := by
  cases r with
  | snapshot =>
    simp only [State.carry]
    split
    · exact State.answer_agrees h hs (by rfl) _ _ _ _
    · exact h
  | readFaults | clearFaults => exact State.answer_agrees h hs (by rfl) _ _ _ _
  | calibrateHeight =>
    simp only [State.carry, State.serveCalibrate]
    (repeat' split) <;> exact State.answer_agrees h hs (by rfl) _ _ _ _
  | coilSweep =>
    simp only [State.carry, State.serveCoilSweep]
    split
    · exact State.startSweep_agrees (by exact h.queue.agreesWith_of_none (h.no_reply hs) _)
    · exact State.answer_agrees h hs (by rfl) _ _ _ _
  | restart =>
    simp only [State.carry, State.serveRestart]
    split <;> exact State.answer_agrees h hs (by rfl) _ _ _ _

theorem State.servePayload_agrees (n : Fin 8) (p : List Byte) :
    (s.servePayload n p).link.AgreesWith (s.servePayload n p).service := by
  cases p with
  | nil => exact State.answer_agrees h hs (by rfl) _ _ _ _
  | cons code args =>
    simp only [State.servePayload, State.serve, State.serveUnknown]
    (repeat' split)
    · exact State.answer_agrees h hs (by rfl) _ _ _ _
    · exact State.answer_agrees h hs (by rfl) _ _ _ _
    · exact State.carry_agrees h hs _ _ _
    · exact State.answer_agrees h hs (by rfl) _ _ _ _

end

/-! ### Frames received -/

@[simp] theorem State.takeRequest_agrees (a : Address) (p : List Byte) :
    (s.takeRequest a p).link.AgreesWith (s.takeRequest a p).service := by
  unfold State.takeRequest
  split
  · exact h
  split
  · exact h.congr rfl rfl rfl
  · next hslot => exact State.servePayload_agrees h (by simpa using hslot) _ _

@[simp] theorem State.routeRequest_agrees (a : Address) (p : List Byte) :
    (s.routeRequest a p).link.AgreesWith (s.routeRequest a p).service := by
  unfold State.routeRequest
  split
  · exact h.congr rfl rfl rfl
  · simp [h]

@[simp] theorem State.takeDemand_agrees (p : List Byte) : (s.takeDemand p).link.AgreesWith (s.takeDemand p).service := by
  unfold State.takeDemand
  split <;> simp [h]

theorem State.screen_agrees (k : Kind) (a : Address) (p : List Byte) :
    (s.screen k a p).link.AgreesWith (s.screen k a p).service := by
  unfold State.screen
  split
  · exact State.silence_agrees (by exact h)
  split
  · exact h
  split
  · exact h
  cases k with
  | state | alert | serviceReq | serviceReply => simp [State.route, h]
  | demand | trace =>
    simp only [State.route]
    split <;> simp [h]

theorem State.receive_agrees (head : RawHead) (p : List Byte) :
    (s.receive head p).link.AgreesWith (s.receive head p).service := by
  have hack : s.acknowledge.link.AgreesWith s.acknowledge.service := h.congr rfl rfl rfl
  unfold State.receive State.accept
  (repeat' split)
  · exact State.screen_agrees (by exact hack.congr rfl rfl rfl) _ _ _
  · exact hack
  · exact hack.congr rfl rfl rfl
  · exact hack.congr rfl rfl rfl
  · exact h.congr rfl rfl rfl

end

/-! ### The commands -/

theorem agrees_of_next {u : State} (h : (.next u : Host.Outcome State Fault Refusal) = .next t)
    (hu : u.link.AgreesWith u.service) : t.link.AgreesWith t.service :=
  holds_of_next (P := fun w => w.link.AgreesWith w.service) h hu

/-- A guarded command keeps the agreement when its effect does. -/
theorem Link.AgreesWith.ite {c : Bool} (h : s.link.AgreesWith s.service) (ht : t.link.AgreesWith t.service) :
    (if c then t else s).link.AgreesWith (if c then t else s).service := by
  split
  · exact ht
  · exact h

theorem Link.AgreesWith.empty : ({} : Link).AgreesWith {} :=
  ⟨⟨by decide, by decide, by decide, by decide, by decide, by decide, .nil, nofun, nofun⟩, nofun⟩

/-- The idle link starts at most one attempt (R155). -/
theorem Link.AgreesWith.idle (h : l.AgreesWith v) (own : Fin 8) : (l.idle own).AgreesWith v := by
  unfold Link.idle
  split
  · exact h
  · next hs =>
    have hsending : l.sending = false := by simpa using hs
    (repeat' split)
    · exact h.congr rfl rfl rfl
    · exact h.congr rfl rfl rfl
    · exact h.of_replies (Link.startSending_queueOk h.queue hsending own _) (l.startSending_replies own _).le rfl

/-- Entries rewritten in their places. -/
theorem Link.AgreesWith.map {f : Entry → Entry} (h : l.AgreesWith v) (hf : ∀ x, (f x).Replaces x)
    (hi : ∀ x, (f x).inFlight = x.inFlight) (hq : l'.queue = l.queue.map f) (hh : l'.held = l.held) : l'.AgreesWith v :=
  h.of_replies (h.queue.map hf hi hq hh) (hq ▸ (countKind_replaced (forall₂_replaces_map fun x _ => hf x) _).le) rfl

theorem Entry.promote_replaces (x : Entry) : x.promote.Replaces x := by
  unfold Entry.promote
  split
  · next hdue => exact ⟨rfl, fun _ => rfl, .inr ⟨by simp_all [Entry.promotionDue], rfl⟩⟩
  · exact .refl x

theorem Entry.promote_inFlight (x : Entry) : x.promote.inFlight = x.inFlight := by
  unfold Entry.promote
  split <;> rfl

/-- Every command keeps the agreement: resets empty both blocks, frames and requests go through reception, the link's own
commands start and end attempts, and every other command offers frames alone. -/
theorem exec_agrees (c : Instr) (s t : State) (hs : s.link.AgreesWith s.service) (h : exec c s = .next t) :
    t.link.AgreesWith t.service := by
  cases c with
  | powerOnReset => exact agrees_of_next h .empty
  | serviceRestart => exact agrees_of_next h (hs.ite .empty)
  | stateFrame | demandFrame | alertFrame | traceFrame | serviceReplyFrame | frameRejected | snapshot | readFaults
  | clearFaults | calibrateHeight | coilSweep | restart | unknownRequest =>
    exact agrees_of_next h (State.receive_agrees hs _ _)
  | frameCheckError | frameFormatError => exact agrees_of_next h (hs.congr rfl rfl rfl)
  | linkIdle => exact agrees_of_next h (hs.idle _)
  | statePromotion => exact agrees_of_next h (hs.map Entry.promote_replaces Entry.promote_inFlight rfl rfl)
  | alertExpiry => exact agrees_of_next h hs
  | stateTimer => exact agrees_of_next h (hs.ite (State.offerState_agrees (hs.congr rfl rfl rfl)))
  | trackerPeriod | brakePeriod | levellingPeriod => exact agrees_of_next h (by simp [hs])
  | ladderPeriod => exact agrees_of_next h (State.ladderPeriod_agrees hs)
  | slipPeriod => exact agrees_of_next h (State.slipPeriod_agrees hs)
  | steeringPeriod => exact agrees_of_next h (State.steeringPeriod_agrees hs _)
  | jointPeriod => exact agrees_of_next h (hs.ite (State.takeJointReading_agrees hs _))
  | entrancePeriod =>
    refine agrees_of_next h (hs.ite ?_)
    exact State.checkSweep_agrees (State.entranceReport_agrees (by simp [hs]))
  | wheelPulse => exact agrees_of_next h (State.tracePulse_agrees (s := s.putWheel _ _) hs _)
  | sweepStep =>
    refine agrees_of_next h (hs.ite ?_)
    split
    · exact State.sweepStep_agrees hs _
    · exact State.endSweep_agrees hs _
  | lockTimeout | closeTimeout | reopeningDone =>
    refine agrees_of_next h ?_
    split
    · exact hs.ite (State.checkSweep_agrees (State.entranceReport_agrees (by simp [hs])))
    · exact hs
  | demandLost => exact agrees_of_next h (hs.ite (State.checkSweep_agrees (by exact hs)))
  | trackingFault => exact agrees_of_next h (hs.ite (State.countTracking_agrees hs))
  | brakeDegradedRepeat | jackknifeAlertRepeat | jointLimitAlertRepeat | steerPinnedRepeat =>
    exact agrees_of_next h (hs.ite (State.offerAlert_agrees (by exact hs) _ _))
  | _ => exact agrees_of_next h (hs.ite (by simp [hs]))

/-- A millisecond counts the entries' times in the queue. -/
theorem State.pass_agrees (s : State) (h : s.link.AgreesWith s.service) : s.pass.link.AgreesWith s.pass.service :=
  h.map (f := fun e => { e with time := bump e.time }) (fun _ => ⟨rfl, fun _ => rfl, .inl rfl⟩) (fun _ => rfl) rfl rfl

/-- Settles O54: the agreement is kept by every command and by the passing of time. -/
theorem everyStepKeepsTheTransmitQueue : Obligations.EveryStepKeepsTheTransmitQueue := fun s t hs h =>
  t.linkOk_iff.2 (step_keeps (P := fun u => u.link.AgreesWith u.service) (fun _ _ hu => hu) State.pass_agrees exec_agrees
    (s.linkOk_iff.1 hs) h)

end Sys2Proof.Machine
end

section
/-! PROOFS. The start of an attempt: the entry an idle link sends and its frame on the wires, field by field; and frames
that arrive damaged. -/

namespace Sys2Proof.Machine

variable {q before after : List Entry} {e : Entry} {own : Fin 8}

/-! ### The entry sent next (R155) -/

/-- `e` stands in `q` where every entry before it has a greater identifier and none after it a lower one. -/
def SentFirst (own : Fin 8) (q before : List Entry) (e : Entry) (after : List Entry) : Prop :=
  q = before ++ e :: after ∧ (∀ x ∈ before, e.ident own < x.ident own) ∧ ∀ x ∈ after, e.ident own ≤ x.ident own

theorem SentFirst.cons {y : Entry} (h : SentFirst own q before e after) (hy : e.ident own < y.ident own) :
    SentFirst own (y :: q) (y :: before) e after := by
  obtain ⟨rfl, hbefore, hafter⟩ := h
  exact ⟨rfl, List.forall_mem_cons.2 ⟨hy, hbefore⟩, hafter⟩

/-- With an entry `b` in hand the search keeps it, or takes a lower one from the rest. -/
theorem pickEntry_some (own : Fin 8) (b : Entry) (q : List Entry) :
    (pickEntry own (some b) q = some b ∧ ∀ x ∈ q, b.ident own ≤ x.ident own) ∨
    ∃ before e after, pickEntry own (some b) q = some e ∧ SentFirst own q before e after ∧ e.ident own < b.ident own := by
  induction q generalizing b with
  | nil => exact .inl ⟨rfl, nofun⟩
  | cons y q ih =>
    by_cases hy : y.ident own < b.ident own
    · rw [pickEntry, if_pos hy]
      rcases ih y with ⟨hpick, hle⟩ | ⟨before, e, after, hpick, hfirst, hlt⟩
      · exact .inr ⟨[], y, q, hpick, ⟨rfl, nofun, hle⟩, hy⟩
      · exact .inr ⟨y :: before, e, after, hpick, hfirst.cons hlt, hlt.trans hy⟩
    · rw [pickEntry, if_neg hy]
      rcases ih b with ⟨hpick, hle⟩ | ⟨before, e, after, hpick, hfirst, hlt⟩
      · exact .inl ⟨hpick, List.forall_mem_cons.2 ⟨Nat.le_of_not_lt hy, hle⟩⟩
      · exact .inr ⟨y :: before, e, after, hpick, hfirst.cons (by omega), hlt⟩

/-- Of a queue that is not empty the lowest identifier is picked, the longest queued among equals. -/
theorem exists_pickEntry (own : Fin 8) (hq : q ≠ []) :
    ∃ before e after, pickEntry own none q = some e ∧ SentFirst own q before e after := by
  cases q with
  | nil => exact absurd rfl hq
  | cons y q =>
    rcases pickEntry_some own y q with ⟨hpick, hle⟩ | ⟨before, e, after, hpick, hfirst, hlt⟩
    · exact ⟨[], y, q, hpick, rfl, nofun, hle⟩
    · exact ⟨y :: before, e, after, hpick, hfirst.cons hlt⟩

/-- The first entry equal to the one picked is the one picked. -/
theorem markInFlight_of_first (h : ∀ x ∈ before, x ≠ e) :
    markInFlight e (before ++ e :: after) = before ++ { e with inFlight := true } :: after := by
  induction before with
  | nil => simp [markInFlight]
  | cons y before ih =>
    obtain ⟨hy, hbefore⟩ := List.forall_mem_cons.1 h
    simp [markInFlight, hy, ih hbefore]

/-! ### Its frame (R149, R151) -/

theorem bitsOf_eq (w x : Nat) : bitsOf w x = msbFirst w x := by
  induction w with
  | zero => rfl
  | succ w ih =>
    have hrest (i : Nat) : w - 1 - i = w - (i + 1) := by omega
    simp [bitsOf, ih, msbFirst, List.range_succ_eq_map, Function.comp_def, hrest]

theorem bitsOfBytes_eq (p : List Byte) : bitsOfBytes p = p.flatMap fun b => msbFirst 8 b.toNat := by
  induction p with
  | nil => rfl
  | cons b p ih => rw [bitsOfBytes, bitsOf_eq, ih, List.flatMap_cons]

theorem checkedBits_eq (ident dest : Nat) (p : List Byte) : checkedBits ident dest p =
    msbFirst 10 ident ++ msbFirst 4 dest ++ msbFirst 4 p.length ++ p.flatMap fun b => msbFirst 8 b.toNat := by
  simp only [checkedBits, bitsOf_eq, bitsOfBytes_eq]

theorem frameBits_eq (ident dest : Nat) (p : List Byte) : frameBits ident dest p =
    false :: insertBits false 1 (checkedBits ident dest p ++ msbFirst 16 (crc16 (checkedBits ident dest p))) ++
      List.replicate 9 true := by
  simp only [frameBits, bitsOf_eq]

/-- Settles O44: the entry picked goes in flight in its place, its frame written out field by field. -/
theorem linkIdleSendsTheLowestIdentifier : Obligations.LinkIdleSendsTheLowestIdentifier := by
  refine ⟨⟨rfl, rfl, rfl, rfl, rfl, rfl⟩, by decide, fun s hq hs hl => ?_⟩
  obtain ⟨before, e, after, hpick, hqueue, hbefore, hafter⟩ := exists_pickEntry s.own hq
  have hmark : markInFlight e s.link.queue = before ++ { e with inFlight := true } :: after := by
    rw [hqueue]
    exact markInFlight_of_first fun x hx he => absurd (hbefore x hx) (by simp [he])
  refine ⟨before, e, after, _, hqueue, hbefore, hafter, fun _ => rfl, rfl, ?_⟩
  have hidle : s.link.idle s.own = s.link.startSending s.own e := by simp [Link.idle, hs, hpick, hl]
  have hexec : exec .linkIdle s = .next { s with link := s.link.idle s.own } := rfl
  rw [hexec, hidle, Link.startSending, hmark, Entry.ident, frameBits_eq, checkedBits_eq]

/-! ### Frames that arrive damaged (R152, R153) -/

theorem Kind.ofCode_eq_some_iff (n : Nat) (k : Kind) : Kind.ofCode n = some k ↔ k.code = n := by
  constructor
  · unfold Kind.ofCode
    split <;> rintro ⟨⟩ <;> rfl
  · rintro rfl
    cases k <;> rfl

theorem Kind.hasClass_iff (k : Kind) (c : Nat) : k.hasClass c = true ↔ c = k.cls ∨ (k = .state ∧ c = 1) := by
  simp [Kind.hasClass]

theorem headGood_iff (h : RawHead) : headGood h = true ↔ ∃ k : Kind, k.code = h.kind.val ∧
    (h.cls.val = k.cls ∨ (k = .state ∧ h.cls.val = 1)) ∧ h.parity = kindParity h.kind.val ∧ h.dest.val ≤ 8 := by
  simp only [← Kind.ofCode_eq_some_iff, ← Kind.hasClass_iff]
  unfold headGood
  cases Kind.ofCode h.kind.val with
  | none => simp
  | some k =>
    simp only [Bool.and_eq_true, beq_iff_eq, decide_eq_true_eq, Option.some.injEq, exists_eq_left', and_assoc]
    rw [eq_comm (a := kindParity _)]

/-- A frame with a right check and a header that is not good (R152). -/
theorem State.receive_of_bad_head {s : State} {h : RawHead} {p : List Byte} (hp : p.length ≤ 14)
    (hh : headGood h = false) : s.receive h p = { s with link := { s.link with
      rejected := bump s.link.rejected
      ackDriven := !s.link.listenOnly
      recessive := 0 } } := by
  unfold State.receive
  rw [if_pos hp]
  cases Kind.ofCode h.kind.val with
  | none => rfl
  | some k => simp only [hh, Bool.false_eq_true, if_false]; rfl

/-- Settles O22: each command writes its counter and the ack slot; a header is good when its fields fit a kind. -/
theorem damagedFramesAreCounted : Obligations.DamagedFramesAreCounted := fun _ =>
  ⟨rfl, rfl, fun _ _ hp hh => congrArg _ (State.receive_of_bad_head hp hh), headGood_iff⟩

end Sys2Proof.Machine
end

section
/-! PROOFS. The check of a frame, bit by bit, and the inserted bits: what a receiver removes, and the runs that the wires
never show. -/

namespace Sys2Proof.Machine

/-! ### The check (R151, R164) -/

theorem crcFrom_cons (crc : Nat) (b : Bool) (rest : List Bool) : crcFrom crc (b :: rest) = crcFrom (crcStep crc b) rest := by
  rw [crcFrom]
  split <;> next h => rw [h]

theorem crcFrom_append (crc : Nat) (bits rest : List Bool) :
    crcFrom crc (bits ++ rest) = crcFrom (crcFrom crc bits) rest := by
  induction bits generalizing crc with
  | nil => rfl
  | cons b bits ih => rw [List.cons_append, crcFrom_cons, crcFrom_cons, ih]

theorem crcStep_lt (crc : Nat) (b : Bool) : crcStep crc b < 65536 := by
  have hshift : 2 * crc % 65536 < 2 ^ 16 := Nat.mod_lt _ (by decide)
  simp only [crcStep]
  split
  · exact Nat.xor_lt_two_pow hshift (by decide)
  · exact hshift

theorem crcFrom_lt {crc : Nat} (h : crc < 65536) (bits : List Bool) : crcFrom crc bits < 65536 := by
  induction bits generalizing crc with
  | nil => exact h
  | cons b bits ih =>
    rw [crcFrom_cons]
    exact ih (crcStep_lt crc b)

/-- The step's own figure is the value's highest bit. -/
theorem crcStep_eq {crc : Nat} (h : crc < 65536) (b : Bool) : crcStep crc b =
    if crc.testBit 15 = b then 2 * crc % 65536 else (2 * crc % 65536) ^^^ 0x1021 := by
  have htop : (crc / 32768 == 1) = crc.testBit 15 := by
    rw [Nat.testBit_eq_decide_div_mod_eq, Bool.beq_eq_decide_eq]
    congr 1
    rw [eq_iff_iff]
    omega
  simp only [crcStep, htop, bne_iff_ne, ne_eq, ite_not]
  rfl

/-! ### The inserted bits (R149) -/

/-- A bit after a run that is not yet six long. -/
theorem insertBits_of_short {run : Nat} (h : run ≠ 6) (last b : Bool) (rest : List Bool) :
    insertBits last run (b :: rest) = b :: insertBits b (if b = last then run + 1 else 1) rest := by
  simp [insertBits, h]

/-- A bit after six of one level: the other level goes before it, and the run goes on from there. -/
theorem insertBits_of_six (last b : Bool) (rest : List Bool) :
    insertBits last 6 (b :: rest) = (!last) :: b :: insertBits b (if b = last then 1 else 2) rest := by
  cases b <;> cases last <;> rfl

/-- The receiver keeps the same run and drops each inserted bit. -/
theorem removeInserted_insertBits (last : Bool) (run : Nat) (bits : List Bool) :
    removeInserted last run (insertBits last run bits) = bits := by
  induction bits generalizing last run with
  | nil => rfl
  | cons b bits ih =>
    by_cases hrun : run = 6
    · subst hrun
      have hnext : (if b = !last then 2 else 1) = if b = last then 1 else 2 := by cases b <;> cases last <;> rfl
      simp [insertBits_of_six, removeInserted, hnext, ih]
    · simp [insertBits_of_short hrun, removeInserted, hrun, ih]

/-! ### Runs of seven -/

/-- A run that ends takes no part in a longer one. -/
theorem infix_of_run_ends {b c d : Bool} {n k : Nat} {rest : List Bool} (hcd : c ≠ d) (hn : n < k)
    (h : List.replicate k b <:+: List.replicate n c ++ d :: rest) : List.replicate k b <:+: d :: rest := by
  induction n with
  | zero => exact h
  | succ n ih =>
    have hcons : List.replicate (n + 1) c ++ d :: rest = c :: (List.replicate n c ++ d :: rest) := rfl
    rw [hcons, List.infix_cons_iff] at h
    rcases h with hprefix | hinfix
    · have hlen : (List.replicate k b).length = k := List.length_replicate
      have hfirst := hprefix.getElem (i := 0) (by omega)
      have hends := hprefix.getElem (i := n + 1) (by omega)
      simp only [List.getElem_replicate, List.getElem_cons_zero, List.getElem_cons_succ] at hfirst hends
      exact absurd (hfirst.symm.trans (hends.trans (by simp))) hcd
    · exact ih (by omega) hinfix

/-- No seven equal bits stand in a row, the run so far counted in. -/
def NoSevenAlike (bits : List Bool) : Prop := ∀ b, ¬List.replicate 7 b <:+: bits

theorem NoSevenAlike.of_run_ends {c d : Bool} {n : Nat} {rest : List Bool} (h : NoSevenAlike (d :: rest)) (hcd : c ≠ d)
    (hn : n ≤ 6) : NoSevenAlike (List.replicate n c ++ d :: rest) := fun b hb => h b (infix_of_run_ends hcd (by omega) hb)

theorem noSevenAlike_replicate {n : Nat} (hn : n ≤ 6) (c : Bool) : NoSevenAlike (List.replicate n c) := fun b hb => by
  have hlen := hb.length_le
  simp only [List.length_replicate] at hlen
  omega

/-- The wires show no run of seven: `run` bits of `last`, then what the sender makes of the rest. -/
theorem noSevenAlike_insertBits {run : Nat} (h1 : 1 ≤ run) (h6 : run ≤ 6) (last : Bool) (bits : List Bool) :
    NoSevenAlike (List.replicate run last ++ insertBits last run bits) := by
  induction bits generalizing last run with
  | nil => simpa [insertBits] using noSevenAlike_replicate h6 last
  | cons b bits ih =>
    have hone (c : Bool) : NoSevenAlike (c :: insertBits c 1 bits) := ih le_rfl (by decide) c
    by_cases hrun : run = 6
    · subst hrun
      rw [insertBits_of_six]
      refine .of_run_ends ?_ (by simp) le_rfl
      by_cases hb : b = last
      · subst hb
        rw [if_pos rfl]
        exact .of_run_ends (n := 1) (hone b) (by simp) (by decide)
      · obtain rfl : b = !last := by cases b <;> cases last <;> simp_all
        rw [if_neg hb]
        exact ih (run := 2) (by decide) (by decide) (!last)
    · rw [insertBits_of_short hrun]
      by_cases hb : b = last
      · subst hb
        rw [if_pos rfl, List.append_cons, ← List.replicate_succ']
        exact ih (by omega) (by omega) b
      · rw [if_neg hb]
        exact .of_run_ends (hone b) (Ne.symm hb) h6

/-- Settles O45: the check bit by bit, the insertion bit by bit, its removal, and no run of seven. -/
theorem insertedBitsAreRemovedAgain : Obligations.InsertedBitsAreRemovedAgain := by
  refine ⟨⟨rfl, fun bits b => ?_⟩, fun last run b rest => ⟨rfl, fun h => insertBits_of_short h last b rest,
    insertBits_of_six last b rest⟩, fun bits => ⟨removeInserted_insertBits false 1 bits, fun b before after heq => ?_⟩⟩
  · rw [crc16, crcFrom_append, crcFrom_cons]
    exact crcStep_eq (crcFrom_lt (by decide) bits) b
  · exact noSevenAlike_insertBits le_rfl (by decide) false bits b ⟨before, after, heq.symm⟩

end Sys2Proof.Machine
end

section
/-! PROOFS. The ends of an attempt to send: what has left the queue, what has joined, and what the reply slot is told. -/

namespace Sys2Proof.Machine

variable {l : Link} {s u : State} {e : Entry}

/-! ### The link at the end of an attempt (R153, R154, R156) -/

theorem length_waiting_lt {q : List Entry} (h : q.length ≤ 8) (he : e ∈ q) (hf : e.inFlight = true) :
    (q.filter fun x => !x.inFlight).length < 8 := by
  refine lt_of_lt_of_le (List.length_filter_lt_length_iff_exists.2 ⟨e, he, ?_⟩) h
  simp [hf]

/-- A frame held aside as it joins: new, and not in flight. -/
def Entry.afresh (e : Entry) : Entry := { e with time := 0, inFlight := false }

/-- What an end of an attempt leaves: the waiting entries, then the frame held aside; nothing is held and the wires are
idle. Beyond these the shed flag alone may change. -/
theorem Link.attemptEnds_eq (h : l.QueueOk) : ∃ shed, l.attemptEnds = { l with
    queue := (l.queue.filter fun x => !x.inFlight) ++ l.held.toList.map Entry.afresh
    held := none
    wire := []
    shed := shed } := by
  cases hh : l.held with
  | none =>
    rw [Link.attemptEnds_of_none hh, Link.attemptOver, Link.updateShed_eq]
    simp only [Option.toList_none, List.map_nil, List.append_nil]
    exact ⟨_, rfl⟩
  | some e =>
    obtain ⟨-, -, x, hx, hf, -⟩ := h.standsAside hh
    have hroom : l.attemptOver.queue.length < 8 := l.attemptOver_queue ▸ length_waiting_lt h.depth hx hf
    rw [Link.attemptEnds_of_held hh, Link.append_of_room hroom, Link.attemptOver, Link.updateShed_eq,
      Link.updateShed_eq { l with queue := _, held := _, wire := _ }]
    simp only [Option.toList_some, List.map_cons, List.map_nil]
    exact ⟨_, rfl⟩

/-! ### What the service block is told (R157, R174) -/

theorem State.replyInFlight_eq (h : s.link.QueueOk) (he : e ∈ s.link.queue) (hf : e.inFlight = true) :
    s.replyInFlight = (e.kind == .serviceReply) := by
  obtain ⟨x, hx⟩ := Option.isSome_iff_exists.1 (List.find?_isSome.2 ⟨e, he, hf⟩ :
    (s.link.queue.find? fun y => y.inFlight).isSome)
  obtain rfl := h.oneFlies.eq_of_flies (List.mem_of_find?_eq_some hx) he (List.find?_some hx) hf
  simp [State.replyInFlight, Link.sendingKind, hx]

theorem State.replyLeft_of_none (h : s.service.heldReply = none) : s.replyLeft = { s with service := { s.service with
    slot := if s.service.sweepFor.isSome then .waiting else .free
    heldReply := none } } := by
  simp only [State.replyLeft, h, Service.idleSlot]

theorem State.replyLeft_of_room {r : Reply} (h : s.service.heldReply = some r) (hl : s.link.listenOnly = false)
    (hroom : s.link.queue.length < 8) : s.replyLeft = { s with
      link := Link.updateShed { s.link with queue := s.link.queue ++
        [{ kind := .serviceReply, cls := 3, dest := r.dest, payload := r.payload }] }
      service := { s.service with
        slot := .queued
        heldReply := none } } := by
  simp only [State.replyLeft, h]
  exact State.offerReply_of_room r hl hroom

/-- A frame is held aside for no reply. -/
theorem Link.QueueOk.held_of_reply (h : l.QueueOk) (he : e ∈ l.queue) (hf : e.inFlight = true)
    (hk : e.kind = .serviceReply) : l.held = none := by
  cases hh : l.held with
  | none => rfl
  | some x =>
    have hkind := (h.standsAside hh).kind
    rw [← ((x.twin_iff e).1 (h.held_twin hh he hf)).1, hk] at hkind
    simp at hkind

/-- `u` is `s` with the attempt over, whatever else the end has written. -/
structure State.AttemptEnded (s u : State) : Prop where
  queue : u.link.queue = (s.link.queue.filter fun x => !x.inFlight) ++ s.link.held.toList.map Entry.afresh
  held : u.link.held = none
  wire : u.link.wire = []
  listenOnly : u.link.listenOnly = s.link.listenOnly
  service : u.service = s.service

/-- Told of a reply that has left, the service block writes the slot, and a held reply may join. -/
theorem State.AttemptEnded.tellReply (hu : s.AttemptEnded u) (h : s.link.QueueOk) (he : e ∈ s.link.queue)
    (hf : e.inFlight = true) : s.AttemptDone (u.tellReply s.replyInFlight) e ∧
      ∃ queue shed service, u.tellReply s.replyInFlight = { u with
        link := { u.link with
          queue
          shed }
        service } := by
  obtain ⟨hqueue, hheld, hwire, hlisten, hservice⟩ := hu
  rw [State.replyInFlight_eq h he hf]
  by_cases hk : e.kind = .serviceReply
  · have hnone := h.held_of_reply he hf hk
    have hwaiting : u.link.queue = s.link.queue.filter fun x => !x.inFlight := by simpa [hnone] using hqueue
    have hroom : u.link.queue.length < 8 := hwaiting ▸ length_waiting_lt h.depth he hf
    have htell : u.tellReply (e.kind == .serviceReply) = u.replyLeft := by simp [State.tellReply, hk]
    rw [htell]
    by_cases hreply : s.service.heldReply = none ∨ s.link.listenOnly = true
    · have hleft : u.replyLeft = { u with service := { s.service with
          slot := if s.service.sweepFor.isSome then .waiting else .free
          heldReply := none } } := by
        rw [← hservice]
        rcases hreply with hr | hl
        · exact State.replyLeft_of_none (hservice ▸ hr)
        · exact State.replyLeft_of_listenOnly (hlisten.trans hl)
      rw [hleft]
      refine ⟨⟨⟨hheld, hwire⟩, fun _ hne => absurd hk hne, fun x hx => ?_, fun _ _ => ⟨hwaiting, rfl⟩,
        fun r _ hr hl => ?_⟩, _, _, _, rfl⟩
      · simp [hnone] at hx
      · rcases hreply with hr' | hl'
        · simp [hr'] at hr
        · simp [hl'] at hl
    · obtain ⟨hsome, hlive⟩ : s.service.heldReply ≠ none ∧ s.link.listenOnly = false := by simpa using hreply
      obtain ⟨r, hr⟩ := Option.ne_none_iff_exists'.1 hsome
      rw [State.replyLeft_of_room (hservice ▸ hr) (hlisten.trans hlive) hroom, Link.updateShed_eq]
      refine ⟨⟨⟨hheld, hwire⟩, fun _ hne => absurd hk hne, fun x hx => ?_, fun _ hr' => absurd hr' hreply,
        fun r' _ hr' _ => ?_⟩, _, _, _, rfl⟩
      · simp [hnone] at hx
      · obtain rfl : r = r' := Option.some.inj (hr.symm.trans hr')
        exact ⟨by rw [hwaiting], by rw [hservice]⟩
  · have htell : u.tellReply (e.kind == .serviceReply) = u := by simp [State.tellReply, hk]
    rw [htell]
    refine ⟨⟨⟨hheld, hwire⟩, fun hnone _ => ⟨hservice, by simpa [hnone] using hqueue⟩,
      fun x hx => ⟨hservice, by simpa [hx, Entry.afresh] using hqueue⟩, fun hr => absurd hr hk, fun _ hr => absurd hr hk⟩, _, _, _, rfl⟩

/-! ### Each end of an attempt (R150, R153, R154) -/

theorem Link.sending_of_mem (he : e ∈ l.queue) (hf : e.inFlight = true) : l.sending = true :=
  List.any_eq_true.2 ⟨e, he, hf⟩

/-- The attempt is over, with the link's figures and the fault list as an end writes them, before a reply is reported. -/
def State.ended (s : State) (sent unacked ackMiss sendError : Nat) (faults : FaultList) : State :=
  { s with
    link := { s.link.attemptEnds with
      sent
      unacked
      ackMiss
      sendError }
    faults }

section
variable (h : s.link.QueueOk)
include h

theorem State.sendBitError_eq : s.sendBitError =
    (s.ended s.link.sent s.link.unacked s.link.ackMiss (bump s.link.sendError) s.faults).tellReply s.replyInFlight := by
  obtain ⟨shed, hends⟩ := Link.attemptEnds_eq h
  simp only [State.sendBitError, State.ended, hends]

theorem State.frameSent_of_acked : s.frameSent true =
    (s.ended (bump s.link.sent) s.link.unacked 0 s.link.sendError (s.faults.finish .linkAlone 0)).tellReply
      s.replyInFlight := by
  obtain ⟨shed, hends⟩ := Link.attemptEnds_eq h
  simp only [State.frameSent, if_true, State.ended, hends]
  rfl

theorem State.frameSent_of_missed : s.frameSent false =
    (s.ended (bump s.link.sent) (bump s.link.unacked) (min 16 (s.link.ackMiss + 1)) s.link.sendError
      (if s.link.ackMiss = 15 then s.faults.raise .linkAlone 0 else s.faults)).tellReply s.replyInFlight := by
  obtain ⟨shed, hends⟩ := Link.attemptEnds_eq h
  simp only [State.frameSent, Bool.false_eq_true, if_false, State.ackMissed_eq, growTo_eq_min, State.ended, hends]

theorem State.arbitrationLost_of_listenOnly (hl : s.link.listenOnly = true) : s.arbitrationLost =
    (s.ended s.link.sent s.link.unacked s.link.ackMiss s.link.sendError s.faults).tellReply s.replyInFlight := by
  obtain ⟨shed, hends⟩ := Link.attemptEnds_eq h
  simp only [State.arbitrationLost, Link.attemptLost_of_listenOnly hl, hl, Bool.true_and, State.ended, hends]

/-- What every end leaves: the figures it writes, the queue, what was held, the wires and the slot; nothing else. -/
theorem State.ended_done (he : e ∈ s.link.queue) (hf : e.inFlight = true) (sent unacked ackMiss sendError : Nat)
    (faults : FaultList) {t : State}
    (ht : t = (s.ended sent unacked ackMiss sendError faults).tellReply s.replyInFlight) :
    t = { s with
      link := { s.link with
        queue := t.link.queue
        held := t.link.held
        wire := t.link.wire
        shed := t.link.shed
        sent
        unacked
        ackMiss
        sendError }
      faults
      service := t.service } ∧ s.AttemptDone t e := by
  obtain ⟨shed, hends⟩ := Link.attemptEnds_eq h
  have hended : s.AttemptEnded (s.ended sent unacked ackMiss sendError faults) := by
    simp only [State.ended, hends]
    exact ⟨rfl, rfl, rfl, rfl, rfl⟩
  obtain ⟨hdone, queue, shed', service, heq⟩ := hended.tellReply h he hf
  refine ⟨?_, ht ▸ hdone⟩
  rw [ht, heq, State.ended, hends]

end

/-- Settles O46: each end by the figures it writes, and the arbitration lost by what goes back in its place. -/
theorem attemptsToSendEnd : Obligations.AttemptsToSendEnd := by
  refine ⟨fun s e h he hf => ?_, fun s hnone => ?_⟩
  · have hs := Link.sending_of_mem he hf
    have hdone := State.ended_done h he hf
    refine ⟨fun hl => ?_, fun hl => ⟨_, next_of_due hs, hdone _ _ _ _ _ (State.arbitrationLost_of_listenOnly h hl)⟩,
      ⟨_, next_of_due hs, hdone _ _ _ _ _ (State.sendBitError_eq h)⟩,
      ⟨_, next_of_due hs, hdone _ _ _ _ _ (State.frameSent_of_acked h)⟩, ⟨_, next_of_due hs, ?_⟩, fun hm => ?_⟩
    · refine (next_of_due hs).trans (congrArg _ ?_)
      rw [State.arbitrationLost, hl, Bool.false_and, Link.attemptLost_of_live hl]
      rfl
    · obtain ⟨hframe, hattempt⟩ := hdone _ _ _ _ _ (State.frameSent_of_missed h)
      exact ⟨hframe, hattempt, fun hm => next_of_due (by simp [State.aloneDue, hs, hm])⟩
    · exact next_of_not_due (by simp [State.aloneDue, hm])
  · have hs : s.link.sending = false := s.link.sending_eq_false_iff.2 hnone
    have hidle : ¬s.link.sending = true := by simp [hs]
    exact ⟨next_of_not_due hidle, next_of_not_due hidle, fun _ => next_of_not_due hidle,
      next_of_not_due (by simp [State.aloneDue, hs])⟩

end Sys2Proof.Machine
end

section
/-! PROOFS. A frame offered to the queue, clause by clause: held aside, put in its entry's place, joined, or making room
for itself; and what the service block is told of a reply displaced. -/

namespace Sys2Proof.Machine

variable {l : Link} {s : State} {e x : Entry} {before after : List Entry}

/-! ### Where a frame goes (R156) -/

/-- The frames held once in the queue: a STATE, a DEMAND, an ALERT. -/
def Entry.Single (e : Entry) : Prop := e.kind = .state ∨ e.kind = .demand ∨ e.kind = .alert

theorem Entry.matchedBy_iff (x e : Entry) : x.matchedBy e ↔ e.Single ∧ e.twin x = true := by
  rw [Entry.twin_iff, Entry.matchedBy, Entry.Single]
  cases e.kind <;> simp

theorem Link.offer_single (hl : l.listenOnly = false) (he : e.Single) : l.offer e = l.offerSingle e := by
  rcases he with he | he | he <;> simp [Link.offer, hl, he]

theorem Link.offer_trace (hl : l.listenOnly = false) (he : e.kind = .trace) : l.offer e = l.offerTrace e := by
  simp [Link.offer, hl, he]

theorem Link.offer_request (hl : l.listenOnly = false) (he : e.kind = .serviceReq ∨ e.kind = .serviceReply) :
    l.offer e = l.append e := by
  rcases he with he | he <;> simp [Link.offer, hl, he]

/-- A frame that stands for no entry, and is no fifth TRACE, is appended. -/
theorem Link.offer_append (hl : l.listenOnly = false) (hn : ∀ x ∈ l.queue, ¬x.matchedBy e)
    (ht : e.kind = .trace → countKind .trace l.queue < 4) : l.offer e = l.append e := by
  have hsingle (he : e.Single) : l.offer e = l.append e := by
    rw [Link.offer_single hl he]
    exact Link.offerSingle_of_no_twin fun x hx => by simpa [Entry.matchedBy_iff, he] using hn x hx
  cases hk : e.kind with
  | state => exact hsingle (.inl hk)
  | demand => exact hsingle (.inr (.inl hk))
  | alert => exact hsingle (.inr (.inr hk))
  | trace => rw [Link.offer_trace hl hk, Link.offerTrace_of_fewer (ht hk)]
  | serviceReq => exact Link.offer_request hl (.inl hk)
  | serviceReply => exact Link.offer_request hl (.inr hk)

theorem Link.offer_aside (hl : l.listenOnly = false) (hx : ∃ x ∈ l.queue, x.matchedBy e ∧ x.inFlight = true) :
    l.offer e = ({ l with held := some e }, ⟨true, false⟩) := by
  obtain ⟨x, hx, hmatch, hf⟩ := hx
  obtain ⟨hsingle, htwin⟩ := (x.matchedBy_iff e).1 hmatch
  rw [Link.offer_single hl hsingle]
  exact if_pos (List.any_eq_true.2 ⟨x, hx, by simp [htwin, hf]⟩)

/-- The one entry a frame stands for takes its payload. -/
theorem Link.offer_replaced (h : l.QueueOk) (hl : l.listenOnly = false) (hq : l.queue = before ++ x :: after)
    (hmatch : x.matchedBy e) (hw : x.inFlight = false) : l.offer e =
      ({ l with queue := before ++ { x with payload := e.payload } :: after }, ⟨true, false⟩) := by
  obtain ⟨hsingle, htwin⟩ := (x.matchedBy_iff e).1 hmatch
  have hothers : ∀ y ∈ before ++ after, e.twin y = false := KindsOk.twin_unique (hq ▸ h.kindsOk) hsingle htwin
  have hkeep {q : List Entry} (hq : ∀ y ∈ q, e.twin y = false) : q.map e.refresh = q := by
    refine (List.map_congr_left fun y hy => ?_).trans (List.map_id q)
    simp [Entry.refresh, hq y hy]
  have hmap : l.queue.map e.refresh = before ++ { x with payload := e.payload } :: after := by
    rw [hq, List.map_append, List.map_cons, hkeep fun y hy => hothers y (List.mem_append_left _ hy),
      hkeep fun y hy => hothers y (List.mem_append_right _ hy)]
    simp [Entry.refresh, htwin]
  have hwaits : l.queue.any (fun y => e.twin y && y.inFlight) = false := by
    rw [List.any_eq_false]
    intro y hy
    by_cases hyx : y = x
    · simp [hyx, hw]
    · simp [hothers y (mem_of_split (hq ▸ hy) hyx)]
  have hfound : l.queue.any (fun y => e.twin y) = true := List.any_eq_true.2 ⟨x, by simp [hq], htwin⟩
  rw [Link.offer_single hl hsingle, Link.offerSingle, hwaits, hfound, ← hmap]
  rfl

/-- A fifth TRACE: the oldest that waits leaves, and the frame joins. -/
theorem Link.offer_fifth (h : l.QueueOk) (hl : l.listenOnly = false) (he : e.kind = .trace)
    (h4 : countKind .trace l.queue = 4) (hq : l.queue = before ++ x :: after) (hx : x.kind = .trace)
    (hw : x.inFlight = false) (hb : ∀ y ∈ before, y.kind = .trace → y.inFlight = true) : l.offer e =
      (Link.updateShed { Link.updateShed { l with
        queue := before ++ after
        traceDropped := bump l.traceDropped } with queue := before ++ after ++ [e] }, ⟨true, false⟩) := by
  have hnone : ∀ y ∈ before, ¬y.spareTrace = true := fun y hy => by simpa [Entry.spareTrace_iff] using hb y hy
  have herase : l.queue.eraseP Entry.spareTrace = before ++ after := by
    rw [hq, List.eraseP_append_right _ hnone, List.eraseP_cons_of_pos ((x.spareTrace_iff).2 ⟨hx, hw⟩)]
  have hout : l.traceOut = Link.updateShed { l with
      queue := before ++ after
      traceDropped := bump l.traceDropped } := by rw [Link.traceOut, herase]
  have hroom : l.traceOut.queue.length < 8 := by
    have hdepth := h.depth
    rw [hq] at hdepth
    simp only [hout, Link.updateShed_queue, List.length_append, List.length_cons] at hdepth ⊢
    omega
  rw [Link.offer_trace hl he, Link.offerTrace_of_four h4, Link.append_of_room hroom, hout, Link.updateShed_queue]

/-! ### A full queue (R157) -/

theorem Link.append_of_split (hfull : l.queue.length = 8) (hq : l.queue = before ++ x :: after) (hw : x.inFlight = false)
    (hlt : e.cls < x.cls) (hmax : ∀ y ∈ l.queue, y.inFlight = false → y.cls ≤ x.cls)
    (hlast : ∀ y ∈ after, y.inFlight = false → y.cls < x.cls) : l.append e = (Link.updateShed { l with
      queue := before ++ after ++ [e]
      displaced := bump l.displaced }, ⟨true, x.kind == .serviceReply⟩) := by
  have hleast : leastUrgent l.queue = some x.cls := leastUrgent_eq_some_iff.2 ⟨⟨x, by simp [hq], hw, rfl⟩, hmax⟩
  have hx : x.displaceable x.cls = true := (Entry.displaceable_iff _ x).2 ⟨hw, rfl⟩
  have hafter : ∀ y ∈ after, y.displaceable x.cls = false := fun y hy => by
    rw [← Bool.not_eq_true, Entry.displaceable_iff]
    rintro ⟨hyw, hyc⟩
    exact absurd hyc (hlast y hy hyw).ne
  rcases l.append_cases e with ⟨hroom, -⟩ | ⟨-, c, hc, -, heq⟩ | ⟨-, hdrop, -⟩
  · omega
  · obtain rfl : x.cls = c := Option.some.inj (hleast.symm.trans hc)
    rw [heq, hq, removeYoungest_of_split hx hafter, youngest_of_split hx hafter]
    rfl
  · exact absurd (hdrop _ hleast) (by omega)

theorem Link.append_of_no_place (hfull : 8 ≤ l.queue.length) (hmax : ∀ y ∈ l.queue, y.inFlight = false → y.cls ≤ e.cls) :
    l.append e = ({ l with queueDropped := bump l.queueDropped }, ⟨false, false⟩) := by
  rcases l.append_cases e with ⟨hroom, -⟩ | ⟨-, c, hc, hlt, -⟩ | ⟨-, -, heq⟩
  · omega
  · obtain ⟨⟨y, hy, hw, rfl⟩, -⟩ := leastUrgent_eq_some_iff.1 hc
    exact absurd (hmax y hy hw) (by omega)
  · exact heq

/-- The queue takes a frame by the manual's clauses. -/
theorem Link.offer_takes (h : l.QueueOk) (e : Entry) : l.Takes e (l.offer e).1 (l.offer e).2.replyLeft where
  refused hl := by
    rw [Link.offer_of_listenOnly hl]
    exact ⟨rfl, rfl⟩
  aside hl hx := by
    rw [Link.offer_aside hl hx]
    exact ⟨rfl, rfl⟩
  replaced hl before x after hq hx hw := by
    rw [Link.offer_replaced h hl hq hx hw]
    exact ⟨rfl, rfl⟩
  fifth hl he h4 before x after hq hx hw hb := by
    rw [Link.offer_fifth h hl he h4 hq hx hw hb]
    exact ⟨rfl, rfl⟩
  joins hl hn ht hroom := by
    rw [Link.offer_append hl hn ht, Link.append_of_room hroom]
    exact ⟨rfl, rfl⟩
  displaces hl hn ht hfull before x after hq hw hlt hmax hlast := by
    rw [Link.offer_append hl hn ht, Link.append_of_split hfull hq hw hlt hmax hlast]
    exact ⟨rfl, beq_iff_eq⟩
  dropped hl hn ht hfull hmax := by
    rw [Link.offer_append hl hn ht, Link.append_of_no_place hfull.ge hmax]
    exact ⟨rfl, rfl⟩

/-! ### A reply displaced (R157, R174) -/

/-- A reply leaves for a frame on a full queue alone. -/
theorem Link.offer_of_replyLeft (h : l.QueueOk) (hleft : (l.offer e).2.replyLeft = true) :
    l.listenOnly = false ∧ l.offer e = l.append e := by
  have hl : l.listenOnly = false := by
    by_contra hl
    rw [Link.offer_of_listenOnly (by simpa using hl)] at hleft
    exact nomatch hleft
  refine ⟨hl, ?_⟩
  have hsingle (he : e.Single) : l.offer e = l.append e := by
    rw [Link.offer_single hl he] at hleft ⊢
    unfold Link.offerSingle at hleft ⊢
    split at hleft
    · exact nomatch hleft
    split at hleft
    · exact nomatch hleft
    · next hfly htwin => rw [if_neg hfly, if_neg htwin]
  cases hk : e.kind with
  | state => exact hsingle (.inl hk)
  | demand => exact hsingle (.inr (.inl hk))
  | alert => exact hsingle (.inr (.inr hk))
  | trace =>
    rw [Link.offer_trace hl hk] at hleft ⊢
    rcases h.fourTraces.lt_or_eq with h4 | h4
    · exact Link.offerTrace_of_fewer h4 e
    · obtain ⟨before, x, after, hq, -, -, hout⟩ := Link.exists_traceOut h h4
      have hroom : l.traceOut.queue.length < 8 := by
        have hdepth := h.depth
        simp only [hq, hout, List.length_append, List.length_cons] at hdepth ⊢
        omega
      rw [Link.offerTrace_of_four h4, Link.append_of_room hroom] at hleft
      exact nomatch hleft
  | serviceReq => exact Link.offer_request hl (.inl hk)
  | serviceReply => exact Link.offer_request hl (.inr hk)

/-- The queue is as full after the displacement as before, and the new frame within its class. -/
theorem Link.append_of_replyLeft (h : l.QueueOk) (he : e.cls ≤ 3) (hleft : (l.append e).2.replyLeft = true) :
    8 ≤ (l.append e).1.queue.length ∧ ∀ y ∈ (l.append e).1.queue, y.cls ≤ 3 := by
  rcases l.append_cases e with ⟨-, heq⟩ | ⟨hfull, c, hc, -, heq⟩ | ⟨-, -, heq⟩
  · simp [heq] at hleft
  · obtain ⟨before, x, after, hq, -, -, -, hrem⟩ := exists_displaced hc
    have hqueue : (l.append e).1.queue = before ++ after ++ [e] := by simp [heq, hrem]
    rw [hqueue]
    constructor
    · rw [hq] at hfull
      simp only [List.length_append, List.length_cons, List.length_nil] at hfull ⊢
      omega
    · intro y hy
      rcases List.mem_append.1 hy with hy | hy
      · exact h.cls_le (hq ▸ (sublist_of_split before x after).subset hy)
      · exact List.mem_singleton.1 hy ▸ he
  · simp [heq] at hleft

/-- A reply held back finds no place on a full queue, and is lost. -/
theorem State.replyLeft_of_no_place (hl : s.link.listenOnly = false) (hfull : 8 ≤ s.link.queue.length)
    (hcls : ∀ y ∈ s.link.queue, y.cls ≤ 3) : s.replyLeft = { s with
      link := if s.service.heldReply.isSome then { s.link with queueDropped := bump s.link.queueDropped } else s.link
      service := { s.service with
        slot := if s.service.sweepFor.isSome then .waiting else .free
        heldReply := none } } := by
  cases hr : s.service.heldReply with
  | none => exact State.replyLeft_of_none hr
  | some r =>
    have hdrop := Link.append_of_no_place (l := s.link) (e := newEntry .serviceReply r.dest r.payload) hfull
      fun y hy _ => hcls y hy
    simp only [State.replyLeft, hr, State.offerReply, Link.offer_reply hl, hdrop]
    rfl

/-- A block offers a frame, and the service block is told. -/
theorem State.offer_offers (h : s.link.QueueOk) (he : e.cls ≤ 3) : s.Offers e (s.offer e) := by
  refine ⟨_, _, Link.offer_takes h e, fun hleft => ?_, fun hleft => ?_⟩
  · simp [State.offer, hleft]
  · obtain ⟨hl, happend⟩ := Link.offer_of_replyLeft h hleft
    obtain ⟨hfull, hcls⟩ := Link.append_of_replyLeft h he (happend ▸ hleft)
    rw [← happend] at hfull hcls
    have htold := State.replyLeft_of_no_place (s := { s with link := (s.link.offer e).1 })
      ((s.link.offer_listenOnly e).trans hl) hfull hcls
    simp only [State.offer, hleft, if_true]
    exact htold

end Sys2Proof.Machine
end

section
/-! PROOFS. The STATE frame: the fields of its payload, its timer and its promotion. -/

namespace Sys2Proof.Machine

variable {s : State} {f : FaultList}

/-! ### Fields and bytes -/

theorem split_and_join (x : Nat) : 256 * (x / 256 % 256) + x % 256 = x % 65536 := by omega

/-- A byte of flags, from the lowest. -/
theorem flagBits_eq_ofBits (b₀ b₁ b₂ b₃ b₄ b₅ : Bool) :
    flagBit b₀ 0 + flagBit b₁ 1 + flagBit b₂ 2 + flagBit b₃ 3 + flagBit b₄ 4 + flagBit b₅ 5 =
      Nat.ofBits ![b₀, b₁, b₂, b₃, b₄, b₅] := by
  revert b₀ b₁ b₂ b₃ b₄ b₅
  decide

/-- The summary counts up from the lowest bit, `Nat.ofBits` down from the highest. -/
theorem FaultList.summary_eq_ofBits (f : FaultList) : f.summary = Nat.ofBits fun b : Fin 8 => f.summaryHas b := by
  have hbit (x : Bool) (n : Nat) : (if x = true then 2 ^ n else 0) = x.toNat * 2 ^ n := by cases x <;> simp
  have hup : f.summary = (List.range 8).foldl (fun acc b => acc + (f.summaryHas b).toNat * 2 ^ b) 0 := by
    simp only [FaultList.summary, hbit]
  have hdown {g : Nat → Bool} : Nat.ofBits (fun b : Fin 8 => g b) =
      (List.range 8).foldr (fun b acc => 2 * acc + (g b).toNat) 0 := rfl
  rw [hup, hdown]
  simp only [List.range, List.range.loop, List.foldl, List.foldr]
  omega

/-- A bit of the summary but for the last: one of its codes has an active record (R173). -/
theorem FaultList.summaryHas_eq {b : Nat} (hb : b ≠ 7) {codes : List FaultCode}
    (hcodes : ∀ c, summaryBit c = b ↔ c ∈ codes) {active : Bool}
    (h : active = true ↔ ∃ r ∈ f.records, r.active = true ∧ r.code ∈ codes) : f.summaryHas b = active := by
  rw [Bool.eq_iff_iff, h]
  simp [FaultList.summaryHas, hb, hcodes]

theorem FaultList.summary_testBit (f : FaultList) {b : Nat} (hb : b < 8) : f.summary.testBit b = f.summaryHas b := by
  rw [f.summary_eq_ofBits, Nat.testBit_ofBits_lt _ _ hb]

theorem FaultList.summary_lt (f : FaultList) : f.summary < 256 := by
  rw [f.summary_eq_ofBits]
  exact Nat.ofBits_lt_two_pow _

theorem roleNumber_read (r : Role) : roleNumber r ≤ 2 ∧ [Role.cab, .plain, .steer][roleNumber r]? = some r := by
  cases r <;> simp [roleNumber]

theorem Mode.code_read (m : Mode) :
    m.code ≤ 7 ∧ [Mode.start, .park, .stop, .kneel, .knelt, .raise, .drive, .backup][m.code]? = some m := by
  cases m <;> simp [Mode.code]

/-! ### The payload (R161) -/

/-- The six flags. -/
def State.stateFlags (s : State) : Fin 6 → Bool :=
  ![s.levelling.filling, s.interlock.ready, s.interlock.entLocked, s.brake.confirmed, s.interlock.anyBreach,
    s.ownSupply.isSome]

/-- Section, role and mode in one byte. -/
def State.stateHead (s : State) : Nat := 64 * s.cfg.sections[s.own] + 16 * roleNumber s.cfg.role + s.ladder.mode.code

theorem State.statePayload_eq (s : State) : s.statePayload =
    [s.stateHead, s.levelling.load / 256, s.levelling.load, s.ownSpeed / 256, s.ownSpeed, s.deficitField / 256,
      s.deficitField, Nat.ofBits s.stateFlags, s.faults.summary].map (BitVec.ofNat 8) ++
      (s.ownSupply.map (bytesOf 2)).getD [] := by
  rw [State.stateFlags, ← flagBits_eq_ofBits]
  unfold State.statePayload
  cases s.ownSupply <;> rfl

theorem State.statePayload_length (s : State) : s.statePayload.length = if s.ownSupply.isSome then 11 else 9 := by
  rw [s.statePayload_eq]
  cases s.ownSupply <;> rfl

section
variable {p : List Byte} (hp : p = s.statePayload)
include hp

theorem State.byteAt_stateHead : byteAt p 0 = s.stateHead % 256 := by rw [hp]; rfl

theorem State.pairAt_stateLoad : pairAt p 1 = s.levelling.load % 65536 := by
  rw [hp, ← split_and_join]; rfl

theorem State.pairAt_stateSpeed : pairAt p 3 = s.ownSpeed % 65536 := by
  rw [hp, ← split_and_join]; rfl

theorem State.pairAt_stateDeficit : pairAt p 5 = min 65535 (s.brake.deficit / 10) := by
  have hpair : pairAt p 5 = s.deficitField % 65536 := by rw [hp, ← split_and_join]; rfl
  rw [hpair, State.deficitField]
  omega

theorem State.byteAt_stateFlags : byteAt p 7 = Nat.ofBits s.stateFlags := by
  have hlt := Nat.ofBits_lt_two_pow s.stateFlags
  have hbyte : byteAt p 7 = Nat.ofBits s.stateFlags % 256 := by rw [hp, s.statePayload_eq]; rfl
  omega

theorem State.byteAt_stateSummary : byteAt p 8 = s.faults.summary := by
  have hbyte : byteAt p 8 = s.faults.summary % 256 := by rw [hp]; rfl
  rw [hbyte, Nat.mod_eq_of_lt s.faults.summary_lt]

theorem State.pairAt_stateSupply {x : Nat} (hx : s.ownSupply = some x) : pairAt p 9 = x % 65536 := by
  rw [hp, s.statePayload_eq, hx, ← split_and_join]; rfl

/-- The first byte: section, role and mode. -/
theorem State.stateHead_read : (s.cfg.sections[s.own] ≤ 3 → byteAt p 0 / 64 = s.cfg.sections[s.own]) ∧
    [Role.cab, .plain, .steer][byteAt p 0 / 16 % 4]? = some s.cfg.role ∧
    [Mode.start, .park, .stop, .kneel, .knelt, .raise, .drive, .backup][byteAt p 0 % 16]? = some s.ladder.mode := by
  obtain ⟨hrole, hroleAt⟩ := roleNumber_read s.cfg.role
  obtain ⟨hmode, hmodeAt⟩ := s.ladder.mode.code_read
  have hbyte := State.byteAt_stateHead hp
  rw [State.stateHead] at hbyte
  have hrolePart : byteAt p 0 / 16 % 4 = roleNumber s.cfg.role := by omega
  have hmodePart : byteAt p 0 % 16 = s.ladder.mode.code := by omega
  exact ⟨fun _ => by omega, hrolePart ▸ hroleAt, hmodePart ▸ hmodeAt⟩

/-- A flag of the eighth byte. -/
theorem State.stateFlags_read (i : Fin 6) : (byteAt p 7).testBit i = s.stateFlags i := by
  rw [State.byteAt_stateFlags hp, Nat.testBit_ofBits_lt _ _ i.isLt]

theorem State.stateFlags_lt : byteAt p 7 < 64 := by
  rw [State.byteAt_stateFlags hp]
  exact Nat.ofBits_lt_two_pow _

/-- A bit of the ninth byte. -/
theorem State.stateSummary_read {b : Nat} (hb : b < 8) : (byteAt p 8).testBit b = s.faults.summaryHas b := by
  rw [State.byteAt_stateSummary hp, FaultList.summary_testBit _ hb]

theorem State.stateSummary_active {active : List FaultCode → Bool}
    (h : ∀ codes, active codes = true ↔ ∃ r ∈ s.faults.records, r.active = true ∧ r.code ∈ codes) {b : Nat} (hb : b < 7)
    {codes : List FaultCode} (hcodes : ∀ c, summaryBit c = b ↔ c ∈ codes) : (byteAt p 8).testBit b = active codes := by
  rw [State.stateSummary_read hp (by omega), FaultList.summaryHas_eq hb.ne hcodes (h codes)]

end

/-! ### Its timer and its promotion (R158, R161) -/

theorem exec_stateTimer_of_due (hload : s.loaded = true) (hl : s.link.listenOnly = false) (ht : s.link.stateTimer = 0) :
    exec .stateTimer s = .next (State.offer { s with link := { s.link with stateTimer := 20 } }
      { kind := .state, cls := 2, dest := 8, payload := s.statePayload }) :=
  next_of_due (by simp [State.stateTimerDue, hload, hl, ht])

theorem Entry.promote_eq (e : Entry) :
    e.promote = { e with cls := if e.kind = .state ∧ e.cls = 2 ∧ 50 < e.time then 1 else e.cls } := by
  have hdue : e.promotionDue = true ↔ e.kind = .state ∧ e.cls = 2 ∧ 50 < e.time := by simp [Entry.promotionDue, and_assoc]
  rw [Entry.promote]
  by_cases h : e.promotionDue = true
  · rw [if_pos h, if_pos (hdue.1 h)]
  · rw [if_neg h, if_neg (mt hdue.2 h)]

/-- Settles O47: the queue takes a frame by the clauses of `Link.offer_takes`; a STATE's fields are read back from its
bytes; its promotion is that of each entry. -/
theorem stateIsQueuedAndPromoted : Obligations.StateIsQueuedAndPromoted := by
  refine ⟨fun s e h he => State.offer_offers h he, fun s => exec_stateTimer_of_due, fun s p active hp hactive => ?_,
    fun s => ?_⟩
  · obtain ⟨hsection, hrole, hmode⟩ := State.stateHead_read hp
    have hbit {b : Nat} {codes : List FaultCode} := State.stateSummary_active hp hactive (b := b) (codes := codes)
    refine ⟨hp ▸ s.statePayload_length, by simp [State.ownSupply], hsection, hrole, hmode, fun h => ?_, fun h => ?_,
      State.pairAt_stateDeficit hp, State.stateFlags_read hp 0, State.stateFlags_read hp 1, State.stateFlags_read hp 2,
      State.stateFlags_read hp 3, State.stateFlags_read hp 4, State.stateFlags_read hp 5, State.stateFlags_lt hp,
      hbit (by decide) ?_, hbit (by decide) ?_, hbit (by decide) ?_, hbit (by decide) ?_, hbit (by decide) ?_,
      hbit (by decide) ?_, hbit (by decide) ?_, State.stateSummary_read hp (by decide), fun x hx h => ?_⟩
    · rw [State.pairAt_stateLoad hp]; omega
    · rw [State.pairAt_stateSpeed hp]; omega
    iterate 7
      · intro c
        cases c <;> decide
    · rw [State.pairAt_stateSupply hp hx]; omega
  · exact congrArg (fun q => Host.Outcome.next { s with link := { s.link with queue := q } })
      (List.map_congr_left fun e _ => Entry.promote_eq e)

end Sys2Proof.Machine
end

section
/-! PROOFS. The two resets: that the reset state is sound, and what a power-on reset and a service restart leave. -/

namespace Sys2Proof.Machine

/-! ### The reset state is sound -/

theorem State.reset_linkOk : State.reset.LinkOk where
  queue := by constructor <;> simp [State.reset, countKind]
  slot h := absurd h (by decide)

theorem State.reset_pathOk : State.reset.tracker.PathOk := by constructor <;> simp [State.reset]

theorem State.reset_alertsOk : State.reset.peerView.AlertsOk := by constructor <;> simp [State.reset]

theorem State.reset_listOk : State.reset.faults.ListOk := by constructor <;> simp [State.reset]

theorem State.reset_steerOk : State.reset.SteerOk := ⟨by decide, by decide, fun _ => ⟨rfl, rfl⟩⟩

theorem State.reset_doorsOk : State.reset.DoorsOk where
  waiting _ := ⟨rfl, rfl, rfl, .inl rfl⟩
  shut hm := by rcases hm with hm | hm <;> exact nomatch hm

theorem State.reset_valveOk : State.reset.ValveOk := nofun

theorem State.reset_slicesOk : State.reset.levelling.SlicesOk := ⟨by decide, by decide⟩

/-- Settles O5, rule by rule. -/
theorem resetIsSound : Obligations.ResetIsSound :=
  ⟨State.reset_linkOk, State.reset_pathOk, State.reset_alertsOk, State.reset_listOk, State.reset_steerOk,
    .of_not_sweeping rfl, State.reset_doorsOk, State.reset_valveOk, State.reset_slicesOk⟩

/-! ### The resets -/

/-- The straps as a binary number (R164). -/
theorem strapNumber_val (p : StrapPins) : (strapNumber p).val =
    (if p.stn0 then 1 else 0) + 2 * (if p.stn1 then 1 else 0) + 4 * (if p.stn2 then 1 else 0) := by
  obtain ⟨b₀, b₁, b₂⟩ := p
  revert b₀ b₁ b₂
  decide

theorem State.restartDue_iff (s : State) :
    s.restartDue = true ↔ s.service.restartArmed = true ∧ s.service.slot = .free := by simp [State.restartDue]

/-- Settles O6: both resets are `State.resetWith`, the restart's once it is due. -/
theorem bothResetsRestoreTheState : Obligations.BothResetsRestoreTheState := by
  refine ⟨fun pins s => ⟨rfl, strapNumber_val pins⟩, fun pins s => ⟨fun harmed hfree => ?_, fun hnot => ?_⟩⟩
  · exact next_of_due (s.restartDue_iff.2 ⟨harmed, hfree⟩)
  · refine next_of_not_due fun hdue => ?_
    obtain ⟨harmed, hfree⟩ := s.restartDue_iff.1 hdue
    rcases hnot with hnot | hnot
    · simp [harmed] at hnot
    · exact hnot hfree

end Sys2Proof.Machine
end

section
/-! PROOFS. A coil sweep's last step and its broken conditions: the result recorded, the next coil or the end, and the
reply of a COIL_SWEEP whose sweep has ended. -/

namespace Sys2Proof.Machine

variable {s t : State} {f : Bool}

/-! ### The conditions (R169) -/

theorem sweepMode_iff (m : Mode) : sweepMode m = true ↔ m = .start ∨ m = .park := by simp [sweepMode]

theorem State.sweepMayRun_iff (s : State) : s.sweepMayRun = true ↔
    (s.ladder.mode = .start ∨ s.ladder.mode = .park) ∧ s.ladder.qualifier = .standstill ∧
      s.demand.d = 0 ∧ s.demandFreshness ≠ .lost ∧ s.OwnEntrances fun e => e.state = .locked := by
  simp [State.sweepMayRun, sweepMode_iff, ← State.allLocked_iff, and_assoc]

theorem exec_sweepStep_of_held (hr : s.sweeping = true) (hm : s.sweepMayRun = true) :
    exec (.sweepStep f) s = .next (s.sweepStep f) := congrArg Host.Outcome.next ((if_pos hr).trans (if_pos hm))

theorem exec_sweepStep_of_broken (hr : s.sweeping = true) (hm : s.sweepMayRun = false) :
    exec (.sweepStep f) s = .next (s.endSweep .aborted) :=
  congrArg Host.Outcome.next ((if_pos hr).trans (if_neg (by simp [hm])))

/-- Settles O11: under broken conditions a step is the end of the sweep, which `State.endSweep_ends` gives. -/
theorem brokenConditionsAbortSweep : Obligations.BrokenConditionsAbortSweep := fun _ s hr =>
  ⟨s.sweepMayRun_iff, fun hm => ⟨_, exec_sweepStep_of_broken hr hm, s.endSweep_ends .aborted⟩⟩

/-! ### The last step of a test (R168, R170) -/

theorem Sweep.result_eq (w : Sweep) : w.result = if w.driveSig = w.senseSig then .pass else .fail := by
  simp [Sweep.result]

theorem State.recordCoil_eq (s : State) (i : Nat) (r : CoilResult) : s.recordCoil i r = { s with
    startUp := { s.startUp with coils := s.startUp.coils.setIfInBounds i r }
    faults := if r = .fail then s.faults.raise .coilFail i else s.faults } := by
  cases r <;> rfl

/-- A coil's result leaves the others' as they were. -/
theorem State.recordCoil_coilFailed {i j : Nat} (h : j ≠ i) (r : CoilResult) :
    (s.recordCoil i r).coilFailed j = s.coilFailed j := by
  simp [State.coilFailed, State.coil, State.recordCoil_eq, List.getElem?_set_ne h.symm]

/-- The state once the test of a coil is over and its result recorded. -/
def State.coilTested (s : State) (f : Bool) : State :=
  State.recordCoil { s with startUp := { s.startUp with sweep := s.startUp.sweep.advance f } } s.startUp.sweep.coil
    (s.startUp.sweep.advance f).result

theorem State.coilTested_eq (s : State) (f : Bool) : s.coilTested f = { s with
    startUp := { s.startUp with
      sweep := s.startUp.sweep.advance f
      coils := s.startUp.coils.setIfInBounds s.startUp.sweep.coil (s.startUp.sweep.advance f).result }
    faults := if (s.startUp.sweep.advance f).result = .fail then s.faults.raise .coilFail s.startUp.sweep.coil
      else s.faults } := State.recordCoil_eq _ _ _

theorem State.coilTested_coilFailed {j : Nat} (h : s.startUp.sweep.coil < j) :
    (s.coilTested f).coilFailed j = s.coilFailed j := State.recordCoil_coilFailed h.ne' _

theorem State.coilTested_coilCount : (s.coilTested f).coilCount = s.coilCount := by rw [State.coilTested_eq]; rfl

/-- The last step of a test records its result, and the sweep goes on from the coil after it. -/
theorem State.sweepStep_of_last (h : s.startUp.sweep.step = 31) :
    s.sweepStep f = (s.coilTested f).sweepFrom (s.startUp.sweep.coil + 1) :=
  if_neg (show ¬s.startUp.sweep.step + 1 < 32 by omega)

/-! ### The next coil, or the end (R167) -/

theorem State.sweepFrom_of_next {i k : Nat} (hk : k ≤ i) (hi : i < s.coilCount) (hok : s.coilFailed i = false)
    (hbelow : ∀ j, k ≤ j → j < i → s.coilFailed j = true) : s.sweepFrom k = s.beginCoil i := by
  have hcount := s.coilCount_le
  simp only [State.sweepFrom, s.nextCoil_eq_some i 10 k hk (by omega) hi hok hbelow]

theorem State.sweepFrom_of_none {k : Nat} (h : ∀ j, k ≤ j → j < s.coilCount → s.coilFailed j = true) :
    s.sweepFrom k = s.endSweep .done := by
  simp only [State.sweepFrom, s.nextCoil_eq_none 10 k h]

/-- After the last coil that is not FAIL the sweep is DONE. -/
theorem State.sweepStep_of_last_coil (h : s.startUp.sweep.step = 31)
    (hall : ∀ j, s.startUp.sweep.coil < j → j < s.coilCount → s.coilFailed j = true) :
    s.sweepStep f = (s.coilTested f).endSweep .done := by
  rw [State.sweepStep_of_last h]
  refine State.sweepFrom_of_none fun j hj hcount => ?_
  rw [State.coilTested_coilFailed hj]
  exact hall j hj (hcount.trans_eq State.coilTested_coilCount)

/-- Settles O10: the result is recorded, and `State.sweepFrom` finds the next coil or ends the sweep. -/
theorem lastSweepStepMarksCoil : Obligations.LastSweepStepMarksCoil := by
  intro f s hr hm hstep _
  refine ⟨s.sweepStep f, s.startUp.sweep.advance f, (s.startUp.sweep.advance f).result, s.coilTested f,
    exec_sweepStep_of_held hr hm, Sweep.advance_shifts _ f, Sweep.result_eq _, s.coilTested_eq f,
    fun i hlt hi hok hbelow => ?next, fun hall => ?last⟩
  case next =>
    have hnext : (s.coilTested f).sweepFrom (s.startUp.sweep.coil + 1) = (s.coilTested f).beginCoil i := by
      refine State.sweepFrom_of_next hlt (hi.trans_eq State.coilTested_coilCount.symm) ?_ fun j hj hji => ?_
      · rw [State.coilTested_coilFailed hlt, hok]
      · rw [State.coilTested_coilFailed hj, hbelow j hj hji]
    rw [State.sweepStep_of_last hstep, hnext, State.coilTested_eq]
    rfl
  case last =>
    rw [State.sweepStep_of_last_coil hstep hall]
    exact State.endSweep_ends _ .done

/-! ### The reply of an ended sweep (R174, R177) -/

theorem State.coilBytes_congr (h : t.startUp.coils = s.startUp.coils) (hc : t.startUp.config = s.startUp.config) :
    t.coilBytes = s.coilBytes := by
  have hcoil (i : Nat) : t.coil i = s.coil i := by simp only [State.coil, h]
  have hcfg : t.cfg = s.cfg := by rw [State.cfg, State.cfg, hc]
  have hcount : t.coilCount = s.coilCount := by rw [State.coilCount, State.coilCount, hcfg]
  simp only [State.coilBytes, hcoil, hcount]

/-- The end of a sweep keeps the results it answers with. -/
theorem State.SweepEnds.coilBytes_eq {how : SweepState} (h : s.SweepEnds t how) : t.coilBytes = s.coilBytes :=
  State.coilBytes_congr (congrArg (fun x => x.startUp.coils) h.frame) (congrArg (fun x => x.startUp.config) h.frame)

theorem State.SweepEnds.not_sweeping {how : SweepState} (h : s.SweepEnds t how) (hhow : how ≠ .running) :
    t.sweeping = false := by
  have hstate : t.startUp.sweep.state = how := congrArg (fun x => x.startUp.sweep.state) h.frame
  simp [State.sweeping, hstate, hhow]

/-- A sweep step under broken conditions, or the last one of the last coil, ends the sweep of a state that differs from
the one before by start-up and the fault list. -/
theorem exec_sweepStep_ends (hr : s.sweeping = true) (h : s.sweepMayRun = false ∨ (s.startUp.sweep.step = 31 ∧
      ∀ j, s.startUp.sweep.coil < j → j < s.coilCount → s.coilFailed j = true)) :
    ∃ (p : StartUp) (l : FaultList) (t : State) (how : SweepState), exec (.sweepStep f) s = .next t ∧ how ≠ .running ∧
      State.SweepEnds { s with
        startUp := p
        faults := l } t how := by
  rcases Bool.eq_false_or_eq_true s.sweepMayRun with hm | hm
  · obtain ⟨hstep, hall⟩ := h.resolve_left (by simp [hm])
    have hexec := exec_sweepStep_of_held (f := f) hr hm
    have hend := (s.coilTested f).endSweep_ends .done
    rw [State.sweepStep_of_last_coil hstep hall, State.coilTested_eq] at hexec
    rw [State.coilTested_eq] at hend
    exact ⟨_, _, _, .done, hexec, nofun, hend⟩
  · exact ⟨s.startUp, s.faults, _, .aborted, exec_sweepStep_of_broken hr hm, nofun, s.endSweep_ends .aborted⟩

/-- What the end of a sweep leaves of such a state. -/
theorem State.SweepEnds.frame_of_step {p : StartUp} {l : FaultList} {how : SweepState}
    (h : State.SweepEnds { s with
      startUp := p
      faults := l } t how) : t = { s with
    startUp := t.startUp
    faults := t.faults
    link := t.link
    service := t.service } := by
  have hstart := congrArg State.startUp h.frame
  have hfaults := congrArg State.faults h.frame
  rw [hstart, hfaults]
  exact h.frame

end Sys2Proof.Machine
end

section
/-! PROOFS. COIL_SWEEP and RESTART, from their checks to their answers. -/

namespace Sys2Proof.Machine

variable {s : State} {addr : Address} {args : List Byte}

/-! ### A request with a known code (R174) -/

theorem Request.ofCode_code (r : Request) : Request.ofCode (BitVec.ofNat 8 r.code).toNat = some r := by
  cases r <;> rfl

/-- It reaches `State.serve` with the frame counted. -/
theorem State.Serves.serve (h : s.Serves addr) (hargs : args.length ≤ 13) (r : Request) :
    s.receiveRequest addr (BitVec.ofNat 8 r.code :: args) = s.afterHearing.serve addr.sender r args := by
  rw [h.receive (p := _ :: args) (Nat.succ_le_succ hargs)]
  simp only [State.servePayload, Request.ofCode_code]

/-- The state after an answer that changes nothing but the link and the reply slot. -/
def State.repliedWith (s : State) (sender : Fin 8) (payload : List Byte) : State :=
  { s with
    link := s.repliedLink sender payload
    service := { s.service with slot := .queued } }

theorem State.Serves.replied (h : s.Serves addr) (sender : Fin 8) (code : Nat) (r : Result) (data : List Byte) :
    s.afterHearing.answer sender code r data = s.repliedWith sender (replyPayload code r data) :=
  h.answer s.service sender code r data

/-- While a sweep is RUNNING most requests are refused, whatever their arguments. -/
theorem State.Serves.busy (h : s.Serves addr) (hargs : args.length ≤ 13) {r : Request} (hsweep : s.sweeping = true)
    (hr : r.duringSweep = false) : s.receiveRequest addr (BitVec.ofNat 8 r.code :: args) =
      s.repliedWith addr.sender (replyPayload r.code .refusedBusy []) := by
  have hsweep' : s.afterHearing.sweeping = true := hsweep
  rw [h.serve hargs, State.serve, if_pos (by simp [hsweep', hr]), h.replied]

/-- Arguments that do not fit are refused. -/
theorem State.Serves.range (h : s.Serves addr) (hargs : args.length ≤ 13) {r : Request}
    (hfree : s.sweeping = false ∨ r.duringSweep = true) (hfit : argumentsFit r args = false) :
    s.receiveRequest addr (BitVec.ofNat 8 r.code :: args) =
      s.repliedWith addr.sender (replyPayload r.code .refusedRange []) := by
  have hfree' : s.afterHearing.sweeping = false ∨ r.duringSweep = true := hfree
  rw [h.serve hargs, State.serve, if_neg (by rcases hfree' with hf | hf <;> simp [hf]), if_pos (by simp [hfit]), h.replied]

/-- Past both checks the request is carried out. -/
theorem State.Serves.carry (h : s.Serves addr) (hargs : args.length ≤ 13) {r : Request}
    (hfree : s.sweeping = false ∨ r.duringSweep = true) (hfit : argumentsFit r args = true) :
    s.receiveRequest addr (BitVec.ofNat 8 r.code :: args) = s.afterHearing.carry addr.sender r args := by
  have hfree' : s.afterHearing.sweeping = false ∨ r.duringSweep = true := hfree
  rw [h.serve hargs, State.serve, if_neg (by rcases hfree' with hf | hf <;> simp [hf]), if_neg (by simp [hfit])]

/-! ### COIL_SWEEP (R177) -/

/-- The state in which an allowed COIL_SWEEP starts its sweep: the reply pending, the slot WAITING. -/
def State.sweepPending (s : State) (sender : Fin 8) : State :=
  { s with service := { s.service with
      slot := .waiting
      sweepFor := some sender } }

theorem State.serveCoilSweep_of_allowed (hm : s.sweepMayRun = true) (hg : s.startUp.status = .good)
    (hp : s.ladder.mode = .park) (sender : Fin 8) :
    s.serveCoilSweep sender = (s.sweepPending sender).startSweep :=
  if_pos (by simp [State.sweepMayStart, hm, hg, hp])

theorem State.serveCoilSweep_of_refused
    (h : s.ladder.mode ≠ .park ∨ s.sweepMayRun = false ∨ s.startUp.status ≠ .good) (sender : Fin 8) :
    s.serveCoilSweep sender = s.answer sender Request.coilSweep.code .refusedMode [] :=
  if_neg (by rcases h with h | h | h <;> simp [State.sweepMayStart, h])

/-- Start-up at the end of a sweep that is not START's. -/
theorem State.sweepOver_of_park (hp : s.ladder.mode = .park) (how : SweepState) :
    s.sweepOver how = { s with startUp := { s.startUp with sweep := { s.startUp.sweep with state := how } } } := by
  simp [State.sweepOver, hp]

/-- The sweep asked for begins at the lowest coil that is not FAIL, its reply pending (R167, R177). -/
theorem State.sweepPending_startSweep_of_lowest {i : Nat} (hi : i < s.coilCount) (hok : s.coilFailed i = false)
    (hbelow : ∀ j, j < i → s.coilFailed j = true) (sender : Fin 8) :
    (s.afterHearing.sweepPending sender).startSweep = { s.handOver with
      link := s.heardLink
      startUp := { s.startUp with
        sweep := { state := .running, coil := i, step := 0, driveSig := 0, senseSig := 0,
                   pattern := 0xACE1#16 ^^^ BitVec.ofNat 16 s.own.val } }
      service := { s.service with
        slot := .waiting
        sweepFor := some sender } } := by
  rw [State.startSweep_of_lowest (s := s.afterHearing.sweepPending sender) hi hok hbelow]
  rfl

/-- With every coil FAIL the sweep asked for is DONE at once, and answered (R167, R177). -/
theorem State.Serves.sweepPending_startSweep_of_allFail (h : s.Serves addr) (hp : s.ladder.mode = .park)
    (hall : ∀ i, i < s.coilCount → s.coilFailed i = true) (sender : Fin 8) :
    (s.afterHearing.sweepPending sender).startSweep = { s.handOver with
      link := s.repliedLink sender ([5, 0] ++ s.coilBytes)
      startUp := { s.startUp with sweep := { s.startUp.sweep with state := .done } }
      service := { s.service with
        slot := .queued
        sweepFor := none } } := by
  have hdone : (s.afterHearing.sweepPending sender).startSweep =
      (s.afterHearing.sweepPending sender).handOver.endSweep .done :=
    State.sweepFrom_of_none fun j _ hj => hall j hj
  rw [hdone, State.endSweep_of_asked (tool := sender) .done rfl, if_neg nofun, State.sweepOver_of_park (by exact hp),
    State.offerReply_of_room _ (by exact h.live) (by exact h.room)]
  rfl

/-! ### RESTART (R177) -/

theorem State.serveRestart_of_park (hp : s.ladder.mode = .park) (sender : Fin 8) :
    s.serveRestart sender = State.answer { s with service := { s.service with restartArmed := true } } sender
      Request.restart.code .ok [] := if_pos (by simp [hp])

theorem State.serveRestart_of_refused (hp : s.ladder.mode ≠ .park) (sender : Fin 8) :
    s.serveRestart sender = s.answer sender Request.restart.code .refusedMode [] := if_neg (by simp [hp])

/-! ### Both requests, and the reply at a sweep's end -/

theorem State.Serves.exec_coilSweep (h : s.Serves addr) (hfree : s.sweeping = false) :
    exec (.coilSweep addr []) s = .next (s.afterHearing.serveCoilSweep addr.sender) :=
  congrArg Host.Outcome.next (h.carry (args := []) (r := .coilSweep) (Nat.zero_le 13) (.inl hfree) rfl)

theorem State.Serves.exec_restart (h : s.Serves addr) (hfree : s.sweeping = false) :
    exec (.restart addr []) s = .next (s.afterHearing.serveRestart addr.sender) :=
  congrArg Host.Outcome.next (h.carry (args := []) (r := .restart) (Nat.zero_le 13) (.inl hfree) rfl)

/-- Settles O52: each request by the checks it passes, the end of a sweep by `State.SweepEnds`. -/
theorem sweepAndRestartRequests : Obligations.SweepAndRestartRequests := by
  refine ⟨fun addr s h => ⟨fun hsweep args hargs => ?busy, fun hfree args hargs hne => ?range,
    fun hfree hm hg hp => ⟨fun i hi hok hbelow => ?begins, fun hall => ?allFail⟩, fun hfree hno => ?noSweep,
    fun hfree hp => ?restart, fun hfree hp => ?noRestart⟩, fun f tool s hr hask _ hends => ?ends⟩
  case busy =>
    exact ⟨congrArg _ (h.busy (r := .coilSweep) hargs hsweep rfl), congrArg _ (h.busy (r := .restart) hargs hsweep rfl)⟩
  case range =>
    have hfit : args.isEmpty = false := by simpa using hne
    exact ⟨congrArg _ (h.range (r := .coilSweep) hargs (.inl hfree) hfit),
      congrArg _ (h.range (r := .restart) hargs (.inl hfree) hfit)⟩
  case begins =>
    rw [h.exec_coilSweep hfree, State.serveCoilSweep_of_allowed (by exact hm) (by exact hg) (by exact hp),
      State.sweepPending_startSweep_of_lowest hi hok hbelow]
  case allFail =>
    rw [h.exec_coilSweep hfree, State.serveCoilSweep_of_allowed (by exact hm) (by exact hg) (by exact hp),
      h.sweepPending_startSweep_of_allFail hp hall]
  case noSweep =>
    rw [h.exec_coilSweep hfree, State.serveCoilSweep_of_refused (by exact hno), h.replied]
    rfl
  case restart =>
    rw [h.exec_restart hfree, State.serveRestart_of_park (by exact hp)]
    exact congrArg _ (h.answer { s.service with restartArmed := true } _ _ _ _)
  case noRestart =>
    rw [h.exec_restart hfree, State.serveRestart_of_refused (by exact hp), h.replied]
    rfl
  case ends =>
    obtain ⟨p, l, t, how, hexec, hhow, hend⟩ := exec_sweepStep_ends (f := f) hr hends
    refine ⟨t, hexec, hend.not_sweeping hhow, hend.frame_of_step, ?_, ?_⟩
    · rw [hend.coilBytes_eq]
      exact hend.kept tool hask
    · rw [hend.coilBytes_eq]
      exact hend.queued tool hask

end Sys2Proof.Machine
end

section
/-! PROOFS. The seconds counter and the fault list: what raising and ending a fault make of the record that exists, of a
list with room and of a full one. -/

namespace Sys2Proof.Machine

variable {f : FaultList} {before after : List FaultRecord} {r : FaultRecord} {c : FaultCode} {q : Nat}

/-! ### The seconds counter (R172) -/

/-- Settles O48: the tick by its guard, the resets by `State.resetWith`. -/
theorem secondsAreCounted : Obligations.SecondsAreCounted := by
  refine ⟨fun s hdue hs => ?tick, fun s hearly => ?early,
    fun pins s => ⟨⟨_, rfl, rfl, rfl, rfl⟩, fun harmed hfree => ?restart⟩⟩
  case tick =>
    have hticked : exec .secondsTick s = .next { s with faults := { s.faults with
        millis := s.faults.millis - 1000
        seconds := bump s.faults.seconds } } := next_of_due (decide_eq_true hdue)
    rw [hticked, bump_eq_min hs]
  case early => exact next_of_not_due (by simp [State.secondDue, hearly])
  case restart => exact ⟨_, next_of_due (s.restartDue_iff.2 ⟨harmed, hfree⟩), rfl, rfl, rfl⟩

/-! ### The record of a code and qualifier (R171) -/

/-- No other record has the key of one of the list. -/
theorem FaultList.ListOk.is_unique (h : f.ListOk) (hf : f.records = before ++ r :: after) (hr : r.key = (c, q)) :
    ∀ x ∈ before ++ after, x.is c q = false := by
  obtain ⟨-, hkeys, -⟩ := f.listOk_iff.1 h
  rw [hf, List.map_append, List.map_cons] at hkeys
  obtain ⟨hnot, -⟩ := List.nodup_cons.1 (List.nodup_middle.1 hkeys)
  intro x hx
  rw [← Bool.not_eq_true, x.is_iff, ← hr]
  exact fun hkey => hnot (by rw [← List.map_append, ← hkey]; exact List.mem_map_of_mem hx)

theorem map_is_of_none {l : List FaultRecord} (h : ∀ x ∈ l, x.is c q = false) (m : FaultRecord → FaultRecord) :
    (l.map fun x => if x.is c q then m x else x) = l :=
  (List.map_congr_left fun x hx => by simp [h x hx]).trans (List.map_id l)

/-- What is done to the records of a key is done to the one that has it. -/
theorem map_is_of_split (hr : r.is c q = true) (h : ∀ x ∈ before ++ after, x.is c q = false)
    (m : FaultRecord → FaultRecord) :
    ((before ++ r :: after).map fun x => if x.is c q then m x else x) = before ++ m r :: after := by
  rw [List.map_append, List.map_cons, map_is_of_none fun x hx => h x (List.mem_append_left _ hx),
    map_is_of_none fun x hx => h x (List.mem_append_right _ hx), if_pos hr]

/-! ### Raising and ending a fault (R171) -/

theorem FaultList.raise_of_old (h : f.records.any (·.is c q) = true) : f.raise c q = { f with
    records := f.records.map fun x => if x.is c q then { x with
      active := true
      count := min 255 (x.count + 1) } else x } := by
  simp only [FaultList.raise, if_pos h, growTo_eq_min]

theorem FaultList.raise_of_room (h : f.records.any (·.is c q) = false) (hroom : f.records.length < 16) :
    f.raise c q = { f with records := f.records ++ [⟨c, q, f.seconds, 1, true⟩] } := by
  rw [FaultList.raise, if_neg (by simp [h]), if_pos hroom]

/-- On a full list the oldest inactive record makes room. -/
theorem FaultList.raise_of_inactive (h : f.records.any (·.is c q) = false) (hfull : f.records.length = 16)
    (hf : f.records = before ++ r :: after) (hr : r.active = false) (hbefore : ∀ x ∈ before, x.active = true) :
    f.raise c q = { f with records := before ++ after ++ [⟨c, q, f.seconds, 1, true⟩] } := by
  have hsome : f.records.any (fun x => !x.active) = true := by simp [hf, hr]
  have herase : f.records.eraseP (fun x => !x.active) = before ++ after := by
    rw [hf, List.eraseP_append_right _ fun x hx => by simp [hbefore x hx], List.eraseP_cons_of_pos (by simp [hr])]
  rw [FaultList.raise, if_neg (by simp [h]), if_neg (by omega), if_pos hsome, herase]

/-- A full list of active records takes no new one. -/
theorem FaultList.raise_of_full (h : f.records.any (·.is c q) = false) (hfull : f.records.length = 16)
    (hall : ∀ x ∈ f.records, x.active = true) : f.raise c q = { f with overflow := true } := by
  have hnone : ¬f.records.any (fun x => !x.active) = true := by simpa using hall
  rw [FaultList.raise, if_neg (by simp [h]), if_neg (by omega), if_neg hnone]

/-- Settles O49: the record that exists, then a new one by the room there is. -/
theorem faultListRecordsRaisings : Obligations.FaultListRecordsRaisings := by
  intro f code q hok
  refine ⟨fun before r after hf hcode hqual => ?old, fun hnew => ?new⟩
  case old =>
    have hkey : r.key = (code, q) := by rw [FaultRecord.key, hcode, hqual]
    have his : r.is code q = true := (r.is_iff code q).2 hkey
    have hothers := hok.is_unique hf hkey
    constructor
    · rw [FaultList.raise_of_old (by simp [hf, his]), hf, map_is_of_split his hothers]
    · rw [FaultList.finish, hf, map_is_of_split his hothers]
  case new =>
    have hnone : ∀ r ∈ f.records, r.is code q = false := fun r hr => by simpa [FaultRecord.is] using hnew r hr
    have hany : f.records.any (·.is code q) = false := by simpa using hnone
    refine ⟨?_, FaultList.raise_of_room hany, fun hfull =>
      ⟨fun before r after => FaultList.raise_of_inactive hany hfull, FaultList.raise_of_full hany hfull⟩⟩
    rw [FaultList.finish, map_is_of_none hnone]

end Sys2Proof.Machine
end

section
/-! PROOFS. SNAPSHOT, the requests on the fault list, and CALIBRATE_HEIGHT: the arguments each allows, what it reads or
sets, and its answer. -/

namespace Sys2Proof.Machine

variable {s t : State} {addr : Address} {args : List Byte}

/-! ### The answer of a served request (R174) -/

/-- An answer from a state that has heard the request. -/
theorem State.Serves.answer_from (h : s.Serves addr) (hl : t.link = s.heardLink) (sender : Fin 8) (code : Nat)
    (r : Result) (data : List Byte) : t.answer sender code r data = { t with
      link := s.repliedLink sender (replyPayload code r data)
      service := { t.service with slot := .queued } } := by
  rw [State.answer, State.offerReply_of_room _ (by rw [hl]; exact h.live) (by rw [hl]; exact h.room), hl]
  rfl

/-! ### SNAPSHOT (R175) -/

/-- The three forms of the arguments, an absent one read as 0. -/
theorem snapshotArgs_of_fit {q b part : Byte} (hq : q.toNat ≤ 3) (hb : b.toNat ≤ 11)
    (h : (args = [q] ∧ b = 0 ∧ part = 0) ∨ (args = [q, b] ∧ part = 0) ∨ args = [q, b, part]) :
    snapshotArgs args = some (q.toNat, b.toNat, part.toNat) := by
  rcases h with ⟨rfl, rfl, rfl⟩ | ⟨rfl, rfl⟩ | rfl
  · simp [snapshotArgs, hq]
  · simp [snapshotArgs, hq, hb]
  · simp [snapshotArgs, hq, hb]

theorem snapshotArgs_of_unfit
    (h : args.length = 0 ∨ 3 < args.length ∨ 3 < byteAt args 0 ∨ (1 < args.length ∧ 11 < byteAt args 1)) :
    snapshotArgs args = none := by
  match args with
  | [] => rfl
  | [q] =>
    have hq : ¬q.toNat ≤ 3 := by simpa [byteAt] using h
    simp [snapshotArgs, hq]
  | [q, b] =>
    have hqb : 3 < q.toNat ∨ 11 < b.toNat := by simpa [byteAt] using h
    exact if_neg (by simp only [Bool.and_eq_true, decide_eq_true_eq]; omega)
  | [q, b, part] =>
    have hqb : 3 < q.toNat ∨ 11 < b.toNat := by simpa [byteAt] using h
    exact if_neg (by simp only [Bool.and_eq_true, decide_eq_true_eq]; omega)
  | _ :: _ :: _ :: _ :: _ => rfl

theorem State.captureFor_first (s : State) : s.captureFor 0 0 0 = s.captureAll := rfl

theorem State.captureFor_of_none (h : s.service.capture = none) (page block part : Nat) :
    s.captureFor page block part = s.captureAll := by
  simp [State.captureFor, h]

theorem State.captureFor_of_taken {page block part : Nat} (hne : ¬(page = 0 ∧ block = 0 ∧ part = 0))
    {c : List (List Byte)} (h : s.service.capture = some c) : s.captureFor page block part = c := by
  have hlater : ¬(page == 0 && block == 0 && part == 0) = true := by simpa [and_assoc] using hne
  rw [State.captureFor, if_neg hlater, h]

/-- An allowed SNAPSHOT is answered with the page of the capture it reads. -/
theorem State.Serves.snapshot (h : s.Serves addr) (hargs : args.length ≤ 13) {page block part : Nat}
    (hfit : snapshotArgs args = some (page, block, part)) {c : List (List Byte)}
    (hc : s.afterHearing.captureFor page block part = c) : exec (.snapshot addr args) s = .next { s with
      link := s.repliedLink addr.sender ([1, 0] ++ pageOf (c.getD block []) part page)
      service := { s.service with
        slot := .queued
        capture := some c } } := by
  have hcarry := h.carry (r := .snapshot) hargs (.inr rfl) (by simp [argumentsFit, hfit])
  simp only [State.carry, hfit, State.serveSnapshot, hc, h.answer] at hcarry
  exact congrArg Host.Outcome.next hcarry

/-! ### The fault list (R175) -/

theorem State.Serves.readFaults (h : s.Serves addr) {i : Byte} (hi : i.toNat ≤ 15) :
    exec (.readFaults addr [i]) s = .next (s.repliedWith addr.sender
      ([2, 0] ++ (faultBytes s.faults.records[i.toNat]? ++ faultBytes s.faults.records[i.toNat + 1]?))) := by
  have hfit : argumentsFit .readFaults [i] = true := by simpa [argumentsFit, byteAt] using hi
  have hcarry := h.carry (r := .readFaults) (by simp) (.inr rfl) hfit
  exact congrArg Host.Outcome.next (hcarry.trans (h.replied ..))

theorem State.Serves.clearFaults (h : s.Serves addr) : exec (.clearFaults addr []) s = .next { s with
    link := s.repliedLink addr.sender [3, 0]
    service := { s.service with slot := .queued }
    faults := s.faults.cleared } := by
  have hcarry := h.carry (r := .clearFaults) (args := []) (Nat.zero_le 13) (.inr rfl) rfl
  exact congrArg Host.Outcome.next (hcarry.trans (h.answer_from rfl ..))

/-- Settles O50: each request by the arguments that fit and those that do not. -/
theorem readingRequestsAreAnswered : Obligations.ReadingRequestsAreAnswered := by
  refine fun addr s h => ⟨fun q b part args hq hb hforms => ?snapshot, fun args hargs hout => ?noSnapshot,
    fun i hi => h.readFaults hi, fun args hargs hout => ?noRead, h.clearFaults, fun args hargs hne => ?noClear⟩
  case snapshot =>
    have hargs : args.length ≤ 13 := by rcases hforms with ⟨rfl, -⟩ | ⟨rfl, -⟩ | rfl <;> simp
    refine ⟨_, h.snapshot hargs (snapshotArgs_of_fit hq hb hforms) rfl, ?_, fun hnone => ?_, fun hlater old hold => ?_⟩
    · rintro rfl rfl rfl
      exact s.afterHearing.captureFor_first
    · exact State.captureFor_of_none (by exact hnone) ..
    · exact State.captureFor_of_taken (by simpa [BitVec.toNat_eq] using hlater) (by exact hold)
  case noSnapshot =>
    have hfit : argumentsFit .snapshot args = false := by simp [argumentsFit, snapshotArgs_of_unfit hout]
    exact congrArg _ (h.range (r := .snapshot) hargs (.inr rfl) hfit)
  case noRead =>
    have hno : args.length = 1 → 15 < byteAt args 0 := by omega
    exact congrArg _ (h.range (r := .readFaults) hargs (.inr rfl) (by simpa [argumentsFit] using hno))
  case noClear =>
    exact congrArg _ (h.range (r := .clearFaults) hargs (.inr rfl) (by simpa [argumentsFit] using hne))

/-! ### CALIBRATE_HEIGHT (R176) -/

theorem Corner.rawHeight_eq_some_iff (c : Corner) (x : Int) :
    c.rawHeight = some x ↔ c.height.valid = true ∧ c.height.value = some x := by
  simp [Corner.rawHeight]

/-- The mode, the qualifier and both corners allow the request. -/
theorem State.calibration_eq_some_iff (s : State) (l r : Int) : s.calibration = some (l, r) ↔
    s.ladder.mode = .park ∧ s.ladder.qualifier = .standstill ∧
      (s.levelling.corners.left.height.valid = true ∧ s.levelling.corners.left.height.value = some l) ∧
      s.levelling.corners.right.height.valid = true ∧ s.levelling.corners.right.height.value = some r := by
  rw [← Corner.rawHeight_eq_some_iff, ← Corner.rawHeight_eq_some_iff, State.calibration]
  by_cases hstands : s.ladder.mode = .park ∧ s.ladder.qualifier = .standstill
  · rw [if_pos (by simpa using hstands)]
    split <;> simp [*]
  · rw [if_neg (by simpa using hstands)]
    simpa using fun hp hq => absurd ⟨hp, hq⟩ hstands

/-- A request heard changes nothing that a calibration looks at. -/
theorem State.afterHearing_calibration (s : State) : s.afterHearing.calibration = s.calibration := rfl

theorem trimFits_iff (x : Int) : trimFits x = true ↔ -60 ≤ x ∧ x ≤ 60 := by simp [trimFits]

theorem State.serveCalibrate_of_none (h : s.calibration = none) (sender : Fin 8) :
    s.serveCalibrate sender = s.answer sender Request.calibrateHeight.code .refusedMode [] := by
  simp only [State.serveCalibrate, h]

theorem State.serveCalibrate_of_fit {l r : Int} (h : s.calibration = some (l, r)) (hl : trimFits l = true)
    (hr : trimFits r = true) (sender : Fin 8) : s.serveCalibrate sender =
      (s.setTrims l r).answer sender Request.calibrateHeight.code .ok (signedBytesOf 1 l ++ signedBytesOf 1 r) := by
  simp only [State.serveCalibrate, h, hl, hr]
  rfl

theorem State.serveCalibrate_of_unfit {l r : Int} (h : s.calibration = some (l, r))
    (hout : ¬(trimFits l = true ∧ trimFits r = true)) (sender : Fin 8) : s.serveCalibrate sender =
      s.answer sender Request.calibrateHeight.code .refusedRange s.trimBytes := by
  simp only [State.serveCalibrate, h]
  exact if_neg (by simpa using hout)

theorem State.Serves.calibrate (h : s.Serves addr) (hfree : s.sweeping = false) :
    exec (.calibrateHeight addr []) s = .next (s.afterHearing.serveCalibrate addr.sender) :=
  congrArg Host.Outcome.next (h.carry (args := []) (r := .calibrateHeight) (Nat.zero_le 13) (.inl hfree) rfl)

/-- Settles O51: the checks in their order, then `State.calibration` and the range of both trims. -/
theorem calibrationSetsBothTrims : Obligations.CalibrationSetsBothTrims := by
  refine fun addr s h => ⟨fun hsweep args hargs => ?busy, fun hfree args hargs hne => ?range,
    fun hfree l r hp hq hvl hvr hl hr => ?allowed, fun hfree hno => ?noMode⟩
  case busy => exact congrArg _ (h.busy (r := .calibrateHeight) hargs hsweep rfl)
  case range =>
    exact congrArg _ (h.range (r := .calibrateHeight) hargs (.inl hfree) (by simpa [argumentsFit] using hne))
  case allowed =>
    have hcal : s.afterHearing.calibration = some (l, r) :=
      s.afterHearing_calibration.trans ((s.calibration_eq_some_iff l r).2 ⟨hp, hq, ⟨hvl, hl⟩, hvr, hr⟩)
    rw [h.calibrate hfree]
    constructor
    · intro hl1 hl2 hr1 hr2
      rw [State.serveCalibrate_of_fit hcal ((trimFits_iff l).2 ⟨hl1, hl2⟩) ((trimFits_iff r).2 ⟨hr1, hr2⟩)]
      exact congrArg _ (h.answer_from rfl ..)
    · intro hout
      rw [State.serveCalibrate_of_unfit hcal (by simp only [trimFits_iff]; omega), h.replied]
      rfl
  case noMode =>
    have hcal : s.afterHearing.calibration = none := by
      refine s.afterHearing_calibration.trans (Option.eq_none_iff_forall_ne_some.2 fun ⟨l, r⟩ hsome => ?_)
      obtain ⟨hp, hq, ⟨hvl, hl⟩, hvr, hr⟩ := (s.calibration_eq_some_iff l r).1 hsome
      simp [hp, hq, hvl, hl, hvr, hr] at hno
    rw [h.calibrate hfree, State.serveCalibrate_of_none hcal, h.replied]
    rfl

end Sys2Proof.Machine
end

section
/-! PROOFS. A step and the commands that wait: the front command is run on the queue's rest, and every command answers a
next state that leaves the rest waiting. -/

namespace Sys2Proof.Machine

variable {s t : State} {c : Instr}

/-! ### The front of the queue -/

/-- The counterpart of `step_of_empty_queue`: the front command leaves the queue before it is run. -/
theorem step_of_front {rest : List Instr} (h : s.pending = c :: rest) : step s = exec c { s with pending := rest } := by
  unfold step
  rw [h]

/-- Settles O1: the branch of `step` for a command that waits. -/
theorem stepRunsFrontCommand : Obligations.StepRunsFrontCommand := fun _ _ _ h => step_of_front h

/-! ### No command is refused -/

/-- Every arm of `exec` ends in `.next`, its guards and branches being inside the state it answers. -/
theorem exec_answers_next (c : Instr) (s : State) : ∃ t, exec c s = .next t := by
  cases c <;> exact ⟨_, rfl⟩

/-! ### The waiting commands -/

/-- A command's waiting commands are those of the state it answers. -/
theorem pending_of_next {u : State} (h : (.next u : Host.Outcome State Fault Refusal) = .next t)
    (hu : u.pending = s.pending) : t.pending = s.pending :=
  holds_of_next (P := fun v => v.pending = s.pending) h hu

/-- A moment that is not due leaves the whole state, so its effect alone has to be looked at. -/
theorem pending_ite {b : Bool} (h : t.pending = s.pending) : (if b then t else s).pending = s.pending := by
  split
  · exact h
  · rfl

/-- No command touches the commands that wait: whole steps first, then the moments with a guard, by what their effect is
built from. -/
theorem exec_pending (h : exec c s = .next t) : t.pending = s.pending := by
  cases c with
  | powerOnReset | alertExpiry | linkIdle | statePromotion | frameCheckError | frameFormatError =>
    exact pending_of_next h rfl
  | ladderPeriod | trackerPeriod | steeringPeriod | jointPeriod | brakePeriod | slipPeriod | levellingPeriod
  | entrancePeriod | wheelPulse =>
    exact pending_of_next h (by simp)
  | stateFrame | demandFrame | alertFrame | traceFrame | serviceReplyFrame | frameRejected | snapshot | readFaults
  | clearFaults | calibrateHeight | coilSweep | restart | unknownRequest =>
    exact pending_of_next h (s.receive_frame _ _).1
  | serviceRestart | stillTimerFull | startupTimerLimit | recoveryTimerFull | peerStale | peerLost | peerAbsentLimit
  | demandStale | demandAbsentLimit | secondsTick | jackknifeClear | gripReapply | airWindowStart | cornerLocked =>
    exact pending_of_next h (pending_ite rfl)
  | sweepStep =>
    refine pending_of_next h (pending_ite ?_)
    split <;> simp
  | lockTimeout | closeTimeout | reopeningDone =>
    refine pending_of_next h ?_
    split
    · exact pending_ite (by simp)
    · rfl
  | configurationImageRead | sweepOrSkip | demandLost | demandComputation | rejectionRunBreak | pathStep | trackingFault
  | steerPinnedRepeat | jointSensorRecovery | jackknifeSet | jackknifeAlertRepeat | jointLimitAlertRepeat
  | chamberSensorRecovery | brakeDegraded | brakeDegradedRepeat | outOfBandLimit | heightSensorRecovery
  | bellowsSensorRecovery | supplySensorRecovery | raiseSlow | entranceBreachRepeat | arbitrationLost | sendBitError
  | frameSent | linkAlone | stateTimer =>
    exact pending_of_next h (pending_ite (by simp))

/-- Settles O3: each command answers a next state, and whatever it answers leaves the waiting commands. -/
theorem everyCommandAnswersNext : Obligations.EveryCommandAnswersNext := fun c s =>
  let ⟨t, ht⟩ := exec_answers_next c s
  ⟨t, ht, exec_pending ht⟩

end Sys2Proof.Machine
end
